-- ==== Sys2Proof/Word.lean ====
section
/-! DEFINITION. The word and the byte of the hardware (00_scope.md R6, R8): unsigned, bit 0 least significant. Addition of words
is `+` on `BitVec 32`, which is R9's `add32`: modulo 2^32, the carry recorded nowhere. -/

namespace Sys2Proof

/-- R6, R8: "Word: 32-bit unit of state or message data". -/
abbrev Word := BitVec 32

/-- R6, R8: a byte, 8 bits. -/
abbrev Byte := BitVec 8

end Sys2Proof
end

