-- ==== Sys2Proof/Config.lean ====
section
/-! DEFINITION. What an implementation fixes (00_scope.md R7, 10_state.md R36) and the model's free values. -/

namespace Sys2Proof

/-- The parameters the spec leaves open (R7; 20_memory.md R49). The model carries them in State as constants that nothing writes, so
a statement about every state is a statement about every capacity and every bus map (log 4, 19). -/
structure Config where
  /-- MSG_CAP, the largest message length in bytes that the message memory can hold: "a natural number or unbounded" (R7);
  `none` is unbounded. -/
  msgCap : Option Nat
  /-- REG_MAP, the "bus addresses of the host registers" (R7), by register number: CTRL, STATUS, ERRCODE, LEN, DIGEST, HEX. -/
  regMap : Vector Nat 6
  /-- The "MSG base" (20_memory.md R49): the bus address of MSG[0]. -/
  msgBase : Nat
deriving DecidableEq, Repr

/-- DESIGN CHOICE: the parameters of the core State.reset describes. The capacity is unbounded (log 4), the case in which "the core
is total, as the source's algorithm is" (60_exceptions.md R211). Each register sits at the bus address equal to its number, and
MSG begins at the first address after them (log 19). Unsafe for claims about runs from State.reset only. -/
def Config.atReset : Config := { msgCap := none, regMap := #v[0, 1, 2, 3, 4, 5], msgBase := 6 }

/-- Free values (log 6): the n-th unspecified word. It has no body, so no proof can see what it is. The RESET command writes
these into the datapath registers ("no value (unspecified)", 70_reset_and_hazards.md R231). -/
opaque Config.freeWord : Nat → Word

end Sys2Proof
end

