-- ==== Sys2Proof/Syntax.lean ====
section
/-! DEFINITION. The names of the hardware: the sequencer's phases, the host's accesses, and the operations, one constructor of
`Instr` for each row of spec/opcode_table.json (30_encoding.md R67). -/

namespace Sys2Proof

/-- R24: the phases of the sequencer. -/
inductive Phase where
  | idle | load | save | step | feed | fmt | done | err
deriving DecidableEq, Repr

/-- R68 and 95_test_vectors.md section 4: an access of the host. `write r v` is `W r, v`; `read r idx` is `R r` at the byte or
character address `idx` of the register's space, 0 for a register that is no array (log 20); `writeMsg p b` is `WM p, b`. -/
inductive Access where
  | write (reg v : Nat)
  | read (reg idx : Nat)
  | writeMsg (p : Nat) (b : Byte)
deriving DecidableEq, Repr

/-- The same accesses as the host puts them on a bus (R7's REG_MAP, 20_memory.md R49, 93 U12; log 19): `addr` is the bus address of
the register, or of the byte of MSG, in place of its number or of its address in MSG. -/
inductive BusAccess where
  | write (addr v : Nat)
  | read (addr idx : Nat)
  | writeMsg (addr : Nat) (b : Byte)
deriving DecidableEq, Repr

/-- R67: the operations, in the table's order. Host commands carry the operands R200 and R201 give them; the functions carry
the operands of R91 to R95. -/
inductive Instr where
  /- format HOST -/
  | reset | start | rdStatus | rdErrcode | rdLen
  | wrLen (v : Nat)
  | rdDigest (m : Nat)
  | rdHex (q : Nat)
  | wrMsg (p : Nat) (b : Byte)
  /- format SEQ -/
  | init | load | save
  /- format STEP -/
  | op1 | op2 | op3 | op4 | op5 | op6 | op7 | op8 | op9 | op10 | op11 | op12 | op13 | op14 | op15 | op16
  | op17 | op18 | op19 | op20 | op21 | op22 | op23 | op24 | op25 | op26 | op27 | op28 | op29 | op30 | op31 | op32
  | op33 | op34 | op35 | op36 | op37 | op38 | op39 | op40 | op41 | op42 | op43 | op44 | op45 | op46 | op47 | op48
  | op49 | op50 | op51 | op52 | op53 | op54 | op55 | op56 | op57 | op58 | op59 | op60 | op61 | op62 | op63 | op64
  /- format SEQ -/
  | feed | fmt
  /- format FUNC -/
  | pad
  | fnF (x y z : Word)
  | fnG (x y z : Word)
  | fnH (x y z : Word)
  | fnI (x y z : Word)
  | trom (i : Nat)
deriving DecidableEq, Repr

end Sys2Proof
end

