-- ==== Sys2Proof/WellFormed.lean ====
section
/-! DEFINITION. Which instructions the spec has: the bounds it puts on operands that do not depend on the machine's state. -/

namespace Sys2Proof

/-- R201: "Operands: m in 0..15, q in 0..31". R95: "the index i, 1 ≤ i ≤ 64". Every other operand is unbounded or bounded by
its type; the bound p < MSG_CAP of WR_MSG (R200) is a parameter's and is checked when the command runs. -/
def Instr.wellFormed : Instr → Bool
  | .rdDigest m => decide (m < 16)
  | .rdHex q => decide (q < 32)
  | .trom i => decide (1 ≤ i) && decide (i ≤ 64)
  | .reset | .start | .rdStatus | .rdErrcode | .rdLen | .wrLen _ | .wrMsg _ _ => true
  | .init | .load | .save | .feed | .fmt | .pad | .fnF _ _ _ | .fnG _ _ _ | .fnH _ _ _ | .fnI _ _ _ => true
  | .op1 | .op2 | .op3 | .op4 | .op5 | .op6 | .op7 | .op8 | .op9 | .op10 | .op11 | .op12 | .op13 | .op14 | .op15 | .op16 => true
  | .op17 | .op18 | .op19 | .op20 | .op21 | .op22 | .op23 | .op24 | .op25 | .op26 | .op27 | .op28 | .op29 | .op30 | .op31 | .op32 => true
  | .op33 | .op34 | .op35 | .op36 | .op37 | .op38 | .op39 | .op40 | .op41 | .op42 | .op43 | .op44 | .op45 | .op46 | .op47 | .op48 => true
  | .op49 | .op50 | .op51 | .op52 | .op53 | .op54 | .op55 | .op56 | .op57 | .op58 | .op59 | .op60 | .op61 | .op62 | .op63 | .op64 => true

end Sys2Proof
end

