-- ==== Sys2Proof/Decode.lean ====
section
/-! DEFINITION. What selects an operation (30_encoding.md R60, R65, R67, R68) and its decoding, total on every code, rejecting by
name; then the encoder, written from the same tables. The core fetches no instruction stream: a code is what the spec says
selects an operation, a host access, the reset input, the sequencer's phase with its 6-bit opidx, or the selector of a
function (log 13). -/

namespace Sys2Proof

/-- What selects an operation. `sequencer` is the phase and the opidx (formats SEQ and STEP); `startInit` stands for "part of an
accepted START" (INIT); `unmapped` is a bus address at which no register or byte of MSG sits (log 19); `func`, `rom` and `padder` are the functions' selectors: the 2-bit round number, the constant's index,
the padder. -/
inductive Code where
  | access (a : Access)
  | unmapped (addr : Nat)
  | resetInput
  | sequencer (phase : Phase) (opidx : BitVec 6)
  | startInit
  | func (fn : BitVec 2) (x y z : Word)
  | rom (i : Nat)
  | padder
deriving DecidableEq, Repr

/-- Why a code selects nothing. All safe: the model stops where the spec defines no step (93_implementation_defined.md U6,
U8; 46_host_interface.md R198). -/
inductive Reject where
  /-- R69: "Host register numbers above 5 select nothing: an access to one is refused". -/
  | noSuchRegister (reg : Nat)
  /-- U6: write to STATUS, ERRCODE, DIGEST or HEX. -/
  | readOnlyRegister (reg : Nat)
  /-- R201, U6: a read at an address outside the register's space. -/
  | noSuchCell (reg idx : Nat)
  /-- R49, U6: an access at a bus address that REG_MAP gives to no register, or to more than one, or that lies below the base of
  MSG: an access that addresses nothing (log 19). -/
  | noSuchBusAddress (addr : Nat)
  /-- R198: in IDLE, DONE and ERR "the core has no step of its own". -/
  | phaseHasNoStep (phase : Phase)
  /-- U8: T[0] and T[i], i > 64, do not exist. -/
  | noSuchConstant (i : Nat)
deriving DecidableEq, Repr

/-- What a code decodes to. Two host accesses the spec defines are no row of the table: a CTRL write that sets neither bit
("else nothing", R68) and a CTRL read ("reads as 0", R29). -/
inductive Decoded where
  | op (i : Instr)
  | ctrlNone
  | ctrlRead
  | reject (why : Reject)
deriving DecidableEq, Repr

/-- R68: "A write of value w to CTRL (register 0): if w[1] = 1, RESET; else if w[0] = 1, START; else nothing." -/
def decodeCtrlWrite (w : Nat) : Decoded :=
  if w.testBit 1 then .op .reset else if w.testBit 0 then .op .start else .ctrlNone

/-- R68, U6: a write of value v to a host register. -/
def decodeWrite (reg v : Nat) : Decoded :=
  match reg with
  | 0 => decodeCtrlWrite v
  | 1 | 2 | 4 | 5 => .reject (.readOnlyRegister reg)
  | 3 => .op (.wrLen v)
  | _ => .reject (.noSuchRegister reg)

/-- A register that is no array has one cell, at address 0. -/
def decodeScalarRead (reg idx : Nat) (d : Decoded) : Decoded :=
  if idx = 0 then d else .reject (.noSuchCell reg idx)

/-- R27, R199, R201, U6: a read of a host register, DIGEST and HEX at a byte or character address. That a cell which does not exist is
refused here, before the phase is looked at, is the model's choice (log 21). -/
def decodeRead (reg idx : Nat) : Decoded :=
  match reg with
  | 0 => decodeScalarRead 0 idx .ctrlRead
  | 1 => decodeScalarRead 1 idx (.op .rdStatus)
  | 2 => decodeScalarRead 2 idx (.op .rdErrcode)
  | 3 => decodeScalarRead 3 idx (.op .rdLen)
  | 4 => if idx < 16 then .op (.rdDigest idx) else .reject (.noSuchCell 4 idx)
  | 5 => if idx < 32 then .op (.rdHex idx) else .reject (.noSuchCell 5 idx)
  | _ => .reject (.noSuchRegister reg)

def decodeAccess : Access → Decoded
  | .write reg v => decodeWrite reg v
  | .read reg idx => decodeRead reg idx
  | .writeMsg p b => .op (.wrMsg p b)

/-- R65, R67: the STEP rows, "distinguished by the 6-bit `opidx` alone"; OPi has opidx = i - 1, and all 64 values select one (R69). -/
def decodeOpidx (opidx : BitVec 6) : Instr :=
  match opidx.toNat with
  | 0 => .op1
  | 1 => .op2
  | 2 => .op3
  | 3 => .op4
  | 4 => .op5
  | 5 => .op6
  | 6 => .op7
  | 7 => .op8
  | 8 => .op9
  | 9 => .op10
  | 10 => .op11
  | 11 => .op12
  | 12 => .op13
  | 13 => .op14
  | 14 => .op15
  | 15 => .op16
  | 16 => .op17
  | 17 => .op18
  | 18 => .op19
  | 19 => .op20
  | 20 => .op21
  | 21 => .op22
  | 22 => .op23
  | 23 => .op24
  | 24 => .op25
  | 25 => .op26
  | 26 => .op27
  | 27 => .op28
  | 28 => .op29
  | 29 => .op30
  | 30 => .op31
  | 31 => .op32
  | 32 => .op33
  | 33 => .op34
  | 34 => .op35
  | 35 => .op36
  | 36 => .op37
  | 37 => .op38
  | 38 => .op39
  | 39 => .op40
  | 40 => .op41
  | 41 => .op42
  | 42 => .op43
  | 43 => .op44
  | 44 => .op45
  | 45 => .op46
  | 46 => .op47
  | 47 => .op48
  | 48 => .op49
  | 49 => .op50
  | 50 => .op51
  | 51 => .op52
  | 52 => .op53
  | 53 => .op54
  | 54 => .op55
  | 55 => .op56
  | 56 => .op57
  | 57 => .op58
  | 58 => .op59
  | 59 => .op60
  | 60 => .op61
  | 61 => .op62
  | 62 => .op63
  | _ => .op64

/-- R67: the SEQ rows are "distinguished by `phase`". -/
def decodeSequencer (phase : Phase) (opidx : BitVec 6) : Decoded :=
  match phase with
  | .load => .op .load
  | .save => .op .save
  | .step => .op (decodeOpidx opidx)
  | .feed => .op .feed
  | .fmt => .op .fmt
  | .idle => .reject (.phaseHasNoStep .idle)
  | .done => .reject (.phaseHasNoStep .done)
  | .err => .reject (.phaseHasNoStep .err)

/-- R65, R67: the round functions, selected by the 2-bit round number opidx[5:4]. -/
def decodeFunc (fn : BitVec 2) (x y z : Word) : Instr :=
  match fn.toNat with
  | 0 => .fnF x y z
  | 1 => .fnG x y z
  | 2 => .fnH x y z
  | _ => .fnI x y z

def decode : Code → Decoded
  | .access a => decodeAccess a
  | .unmapped addr => .reject (.noSuchBusAddress addr)
  | .resetInput => .op .reset
  | .sequencer phase opidx => decodeSequencer phase opidx
  | .startInit => .op .init
  | .func fn x y z => .op (decodeFunc fn x y z)
  | .rom i => if 1 ≤ i ∧ i ≤ 64 then .op (.trom i) else .reject (.noSuchConstant i)
  | .padder => .op .pad

/-- The code of an instruction, from the same tables (R65, R67, R68). RESET is the CTRL write with bit 1 set and bit 0 clear. -/
def encode : Instr → Code
  | .reset => .access (.write 0 2)
  | .start => .access (.write 0 1)
  | .rdStatus => .access (.read 1 0)
  | .rdErrcode => .access (.read 2 0)
  | .rdLen => .access (.read 3 0)
  | .wrLen v => .access (.write 3 v)
  | .rdDigest m => .access (.read 4 m)
  | .rdHex q => .access (.read 5 q)
  | .wrMsg p b => .access (.writeMsg p b)
  | .init => .startInit
  | .load => .sequencer .load 0
  | .save => .sequencer .save 0
  | .op1 => .sequencer .step 0
  | .op2 => .sequencer .step 1
  | .op3 => .sequencer .step 2
  | .op4 => .sequencer .step 3
  | .op5 => .sequencer .step 4
  | .op6 => .sequencer .step 5
  | .op7 => .sequencer .step 6
  | .op8 => .sequencer .step 7
  | .op9 => .sequencer .step 8
  | .op10 => .sequencer .step 9
  | .op11 => .sequencer .step 10
  | .op12 => .sequencer .step 11
  | .op13 => .sequencer .step 12
  | .op14 => .sequencer .step 13
  | .op15 => .sequencer .step 14
  | .op16 => .sequencer .step 15
  | .op17 => .sequencer .step 16
  | .op18 => .sequencer .step 17
  | .op19 => .sequencer .step 18
  | .op20 => .sequencer .step 19
  | .op21 => .sequencer .step 20
  | .op22 => .sequencer .step 21
  | .op23 => .sequencer .step 22
  | .op24 => .sequencer .step 23
  | .op25 => .sequencer .step 24
  | .op26 => .sequencer .step 25
  | .op27 => .sequencer .step 26
  | .op28 => .sequencer .step 27
  | .op29 => .sequencer .step 28
  | .op30 => .sequencer .step 29
  | .op31 => .sequencer .step 30
  | .op32 => .sequencer .step 31
  | .op33 => .sequencer .step 32
  | .op34 => .sequencer .step 33
  | .op35 => .sequencer .step 34
  | .op36 => .sequencer .step 35
  | .op37 => .sequencer .step 36
  | .op38 => .sequencer .step 37
  | .op39 => .sequencer .step 38
  | .op40 => .sequencer .step 39
  | .op41 => .sequencer .step 40
  | .op42 => .sequencer .step 41
  | .op43 => .sequencer .step 42
  | .op44 => .sequencer .step 43
  | .op45 => .sequencer .step 44
  | .op46 => .sequencer .step 45
  | .op47 => .sequencer .step 46
  | .op48 => .sequencer .step 47
  | .op49 => .sequencer .step 48
  | .op50 => .sequencer .step 49
  | .op51 => .sequencer .step 50
  | .op52 => .sequencer .step 51
  | .op53 => .sequencer .step 52
  | .op54 => .sequencer .step 53
  | .op55 => .sequencer .step 54
  | .op56 => .sequencer .step 55
  | .op57 => .sequencer .step 56
  | .op58 => .sequencer .step 57
  | .op59 => .sequencer .step 58
  | .op60 => .sequencer .step 59
  | .op61 => .sequencer .step 60
  | .op62 => .sequencer .step 61
  | .op63 => .sequencer .step 62
  | .op64 => .sequencer .step 63
  | .feed => .sequencer .feed 0
  | .fmt => .sequencer .fmt 0
  | .pad => .padder
  | .fnF x y z => .func 0 x y z
  | .fnG x y z => .func 1 x y z
  | .fnH x y z => .func 2 x y z
  | .fnI x y z => .func 3 x y z
  | .trom i => .rom i

/-- The instruction a decoding gives, if it gives one. -/
def Decoded.instr? : Decoded → Option Instr
  | .op i => some i
  | .ctrlNone => none
  | .ctrlRead => none
  | .reject _ => none

/-- The code a table word stands for: the 6-bit opidx of a STEP row. The numbers of the other formats (a value written to CTRL,
a host register number, a round number) are told apart from it by the format alone, which a word does not hold (R67, log 13). A
word with a bit above bit 5 is no opidx; it is taken as the number of a host register that is read, and none above 5 exists. -/
def tableCode (w : Nat) : Code :=
  if w < 64 then .sequencer .step (BitVec.ofNat 6 w) else .access (.read w 0)

/-- The instruction the decoder reads from a table word `w` of `nbits` bits. -/
def decodeTableWord (_nbits w : Nat) : Option Instr :=
  (decode (tableCode w)).instr?

end Sys2Proof
end

