-- ==== Sys2Proof/Machine/State.lean ====
section
/-! DEFINITION. The state of the machine as plain data (10_state.md), the reasons a step can stop, and the state after reset. -/

namespace Sys2Proof.Machine

/-- Four words named a, b, c, d: the accumulators A, B, C, D (R20) or their saved copies AA, BB, CC, DD (R22). -/
structure Quad where
  a : Word
  b : Word
  c : Word
  d : Word
deriving DecidableEq, Repr

/-- R29, 93 U10: "a model's ERRCODE type has the two values 0 and 1 only". -/
inductive ErrCode where
  /-- 0: no fault since the last reset or accepted START. -/
  | none
  /-- 1, CAPACITY: START found LEN > MSG_CAP (R211). -/
  | capacity
deriving DecidableEq, Repr

/-- What a host read or a function evaluation returns (log 9). -/
inductive Value where
  | ctrl (v : BitVec 2)
  | status (v : BitVec 3)
  | errcode (v : BitVec 2)
  | len (v : Nat)
  | digest (v : Byte)
  | hex (v : Byte)
  | word (v : Word)
  | buffer (v : List Byte)
deriving DecidableEq, Repr

/-- One move of the host agent (R208, log 1): let the core take a step, assert the reset input (R230), or issue an access, by
register number (R68) or by bus address (R7, R49, log 19). -/
inductive HostMove where
  | wait
  | resetInput
  | access (a : Access)
  | bus (b : BusAccess)
deriving DecidableEq, Repr

/-- MSG, the message memory (R30): address and byte, addresses strictly rising, an unlisted address holding no value (log 8). -/
abbrev Memory := List Host.Cell

/-- The machine stops with a fault. -/
inductive Fault where
  /-- Raised by LOAD for a block at or beyond N: PB has no such address (R84). Safe, and unreachable (R102: "the address is always
  below 64N"; log 17). -/
  | outsidePaddedBuffer
deriving DecidableEq, Repr

/-- The model has no such step. -/
inductive Refusal where
  /-- Raised by exec for an instruction without a meaning. Safe. No instruction of this model raises it. -/
  | notModelled (mnemonic : String)
  /-- Raised by step for a code that selects nothing (R69, R198, 93 U6). Safe. -/
  | rejected (why : Reject)
  /-- Raised by LOAD, SAVE, an operation, FEED or FMT outside its phase or opidx: "An operation that is not enabled in the
  current phase has no step" (R12). Safe; step never selects one (log 16). -/
  | notEnabled
  /-- Raised by START while BUSY: "the model refuses the run" (R202, U5). Safe. -/
  | startWhileBusy
  /-- Raised by WR_LEN and WR_MSG while BUSY: "host protocol violations and are refused" (R200, U3). Safe. -/
  | writeWhileBusy
  /-- Raised by RD_DIGEST and RD_HEX when the outputs hold no value: "the read is refused" (R201, U4). Safe. -/
  | outputNotValid
  /-- Raised by RD_DIGEST and RD_HEX at an address outside 0..15 and 0..31 (R201, U6). Safe. -/
  | noSuchCell
  /-- Raised by WR_MSG at p ≥ MSG_CAP: "addresses nothing and is refused" (R200, U6). Safe. -/
  | beyondCapacity
  /-- Raised by TROM at an index outside 1..64: "No such entry exists; refuse" (U8). Safe. -/
  | noSuchConstant
  /-- Raised by LOAD and PAD for a message byte nothing has written: "the model refuses a run that reads one" (R235, U9). Safe. -/
  | unwrittenMsgByte
deriving DecidableEq, Repr

/-- The state. STATUS, CTRL, PB, N, T and the schedule are no fields: R28, R29, R31, R82, R25 make them functions or constants. -/
structure State where
  /-- The constant parameters MSG_CAP, REG_MAP and the base of MSG (R7, R36, R49, log 4, 19). -/
  cfg : Config
  /-- The accumulators A, B, C, D (R20). -/
  acc : Quad
  /-- The saved copies AA, BB, CC, DD (R22). -/
  saved : Quad
  /-- The message words X[0..15] (R23). -/
  x : Vector Word 16
  /-- The sequencer's phase (R24). -/
  phase : Phase
  /-- The sequencer's block index (R24). -/
  blk : Nat
  /-- The sequencer's op, held as the 6-bit opidx = op - 1 (R24, R65, log 12). -/
  opidx : BitVec 6
  /-- ERRCODE (R27, R29). -/
  errcode : ErrCode
  /-- LEN, a natural number (R27, R29). -/
  len : Nat
  /-- DIGEST[0..15], or no value (R32, R37, log 7). -/
  digest : Option (Vector Byte 16)
  /-- HEX[0..31], or no value (R33, R37, log 7). -/
  hex : Option (Vector Byte 32)
  /-- MSG (R30). -/
  msg : Memory
  /-- The model's own: the host's pending moves, the next one first (log 1). -/
  host : List HostMove
  /-- The model's own: the value the last read or function evaluation returned (log 9). -/
  out : Option Value
  /-- The model's own: how many free values have been used (log 6). -/
  free : Nat
deriving DecidableEq, Repr

/-- R24: op, in 1..64. -/
def State.op (s : State) : Nat := s.opidx.toNat + 1

/-- R38: the machine right after reset. The datapath registers, which R38 leaves "unspecified: no value", hold 0 (DESIGN CHOICE,
log 5); the model's own fields are empty (log 2, 6, 9). -/
def State.reset : State where
  cfg := Config.atReset
  acc := ⟨0, 0, 0, 0⟩
  saved := ⟨0, 0, 0, 0⟩
  x := Vector.replicate 16 0
  phase := .idle
  blk := 0
  opidx := 0
  errcode := .none
  len := 0
  digest := none
  hex := none
  msg := []
  host := []
  out := none
  free := 0

end Sys2Proof.Machine
end

