-- ==== Sys2Proof/Machine/Flags.lean ====
section
/-! DEFINITION. The status bits. The datapath has no flags and no condition codes (10_state.md R26); STATUS is "a pure function of
`phase`" (R28), and ERRCODE's two values have the codes of R29. -/

namespace Sys2Proof.Machine

/-- R28: BUSY "exactly when `phase` is one of LOAD, SAVE, STEP, FEED, FMT". -/
def busy (p : Phase) : Bool :=
  match p with
  | .load | .save | .step | .feed | .fmt => true
  | .idle | .done | .err => false

/-- R28: STATUS, bit 0 BUSY, bit 1 DONE, bit 2 ERR. -/
def status (p : Phase) : BitVec 3 :=
  BitVec.ofBool (decide (p = .err)) ++ BitVec.ofBool (decide (p = .done)) ++ BitVec.ofBool (busy p)

/-- R29: the 2-bit code of ERRCODE. -/
def errBits (e : ErrCode) : BitVec 2 :=
  match e with
  | .none => 0
  | .capacity => 1

end Sys2Proof.Machine
end

