-- ==== Sys2Proof/Machine/Operands.lean ====
section
/-! DEFINITION. Byte order, the bit-field helpers, and the operands of an operation: roles, descriptor, operand assembly
(00_scope.md R9, R10; 30_encoding.md R64 to R66; 43_compression_engine.md R106). -/

namespace Sys2Proof.Machine

/-- R9: "circular left bit-shift of a 32-bit value by s positions". Total in `s`; the schedule uses sixteen amounts (93 U7). -/
def rotl32 (v : Word) (s : Nat) : Word := v.rotateLeft s

/-- R10: the word whose byte at the lowest address is `b0`. -/
def le32 (b0 b1 b2 b3 : Byte) : Word := b3 ++ b2 ++ b1 ++ b0

/-- R10: `byte_j(w) = (w >> 8j) mod 256`, for a word or the 64-bit length field. -/
def byteOf {n : Nat} (w : BitVec n) (j : Nat) : Byte := w.extractLsb' (8 * j) 8

/-- R10: the eight bytes of a 64-bit value, the least significant first. -/
def le64bytes (v : BitVec 64) : List Byte :=
  [byteOf v 0, byteOf v 1, byteOf v 2, byteOf v 3, byteOf v 4, byteOf v 5, byteOf v 6, byteOf v 7]

/-- R10: "the word with its four bytes in reverse order". -/
def bswap32 (w : Word) : Word := le32 (byteOf w 3) (byteOf w 2) (byteOf w 1) (byteOf w 0)

/-- R10, R184: the ASCII code of the character `0123456789abcdef`[n]: 0x30 + n for n < 10, 0x57 + n above. -/
def hexDigit (n : BitVec 4) : Byte :=
  if n.toNat < 10 then 0x30 + n.setWidth 8 else 0x57 + n.setWidth 8

/-- R20, R22: the word numbered 0 to 3. -/
def Quad.get (q : Quad) (n : Fin 4) : Word :=
  match n with
  | 0 => q.a
  | 1 => q.b
  | 2 => q.c
  | 3 => q.d

/-- R11: writing one word; the other three keep their values. -/
def Quad.set (q : Quad) (n : Fin 4) (v : Word) : Quad :=
  match n with
  | 0 => { q with a := v }
  | 1 => { q with b := v }
  | 2 => { q with c := v }
  | 3 => { q with d := v }

/-- R175: the four additions, "independent and simultaneous", each modulo 2^32. -/
def Quad.add (q r : Quad) : Quad := ⟨q.a + r.a, q.b + r.b, q.c + r.c, q.d + r.d⟩

/-- R64: the field `fn`, which round function. -/
inductive RoundFn where
  | f | g | h | i
deriving DecidableEq, Repr

/-- R64: the operation descriptor; `opidx` is i - 1 (R65). -/
structure Descr where
  opidx : BitVec 6
  fn : RoundFn
  k : Fin 16
  s : Nat
  dst : Fin 4
deriving DecidableEq, Repr

/-- R65: `r = floor((i-1)/16)`, the round number minus one. -/
def roundOf (opidx : BitVec 6) : Nat := opidx.toNat / 16

/-- R65: `j = (i-1) mod 16`, the position within the round. -/
def positionOf (opidx : BitVec 6) : Nat := opidx.toNat % 16

/-- R66: `fn = [F, G, H, I][r]`. -/
def fnOf (r : Nat) : RoundFn :=
  match r with
  | 0 => .f
  | 1 => .g
  | 2 => .h
  | _ => .i

/-- R66: the message index, by the closed forms that "reproduce the K lists exactly". -/
def kOf (r j : Nat) : Fin 16 :=
  match r with
  | 0 => Fin.ofNat 16 j
  | 1 => Fin.ofNat 16 (1 + 5 * j)
  | 2 => Fin.ofNat 16 (5 + 3 * j)
  | _ => Fin.ofNat 16 (7 * j)

/-- R66: the rotate amount, the (j mod 4)-th element of the round's shift cycle. -/
def sOf (r j : Nat) : Nat :=
  match r, j % 4 with
  | 0, 0 => 7
  | 0, 1 => 12
  | 0, 2 => 17
  | 0, _ => 22
  | 1, 0 => 5
  | 1, 1 => 9
  | 1, 2 => 14
  | 1, _ => 20
  | 2, 0 => 4
  | 2, 1 => 11
  | 2, 2 => 16
  | 2, _ => 23
  | _, 0 => 6
  | _, 1 => 10
  | _, 2 => 15
  | _, _ => 21

/-- R66, R106: `dst = (4 − (j mod 4)) mod 4`. -/
def dstOf (j : Nat) : Fin 4 := Fin.ofNat 4 (4 - j % 4)

/-- R66: operand assembly from the opidx. -/
def descrOf (opidx : BitVec 6) : Descr where
  opidx := opidx
  fn := fnOf (roundOf opidx)
  k := kOf (roundOf opidx) (positionOf opidx)
  s := sOf (roundOf opidx) (positionOf opidx)
  dst := dstOf (positionOf opidx)

end Sys2Proof.Machine
end

