-- ==== Sys2Proof/Machine/Rom.lean ====
section
/-! DEFINITION. The constant ROM T[1..64] (42_constant_table.md R95 to R97) and the initial values IV (43_compression_engine.md
R100): fixed contents, no state. -/

namespace Sys2Proof.Machine

/-- R96: T[1] to T[16]. -/
def romRound1 : List Word :=
  [0xD76AA478, 0xE8C7B756, 0x242070DB, 0xC1BDCEEE,
   0xF57C0FAF, 0x4787C62A, 0xA8304613, 0xFD469501,
   0x698098D8, 0x8B44F7AF, 0xFFFF5BB1, 0x895CD7BE,
   0x6B901122, 0xFD987193, 0xA679438E, 0x49B40821]

/-- R96: T[17] to T[32]. -/
def romRound2 : List Word :=
  [0xF61E2562, 0xC040B340, 0x265E5A51, 0xE9B6C7AA,
   0xD62F105D, 0x02441453, 0xD8A1E681, 0xE7D3FBC8,
   0x21E1CDE6, 0xC33707D6, 0xF4D50D87, 0x455A14ED,
   0xA9E3E905, 0xFCEFA3F8, 0x676F02D9, 0x8D2A4C8A]

/-- R96: T[33] to T[48]. -/
def romRound3 : List Word :=
  [0xFFFA3942, 0x8771F681, 0x6D9D6122, 0xFDE5380C,
   0xA4BEEA44, 0x4BDECFA9, 0xF6BB4B60, 0xBEBFBC70,
   0x289B7EC6, 0xEAA127FA, 0xD4EF3085, 0x04881D05,
   0xD9D4D039, 0xE6DB99E5, 0x1FA27CF8, 0xC4AC5665]

/-- R96: T[49] to T[64]. -/
def romRound4 : List Word :=
  [0xF4292244, 0x432AFF97, 0xAB9423A7, 0xFC93A039,
   0x655B59C3, 0x8F0CCC92, 0xFFEFF47D, 0x85845DD1,
   0x6FA87E4F, 0xFE2CE6E0, 0xA3014314, 0x4E0811A1,
   0xF7537E82, 0xBD3AF235, 0x2AD7D2BB, 0xEB86D391]

/-- R96: the ROM, T[i] at position i - 1. -/
def rom : List Word := romRound1 ++ romRound2 ++ romRound3 ++ romRound4

theorem rom_length : rom.length = 64 := rfl

/-- R95: the constant operation OPi reads, T[opidx + 1]. -/
def romAt (opidx : BitVec 6) : Word := rom[opidx.toNat]'(by rw [rom_length]; exact opidx.isLt)

/-- R95: T[i] for 1 ≤ i ≤ 64; there is no other entry (93 U8). -/
def trom? (i : Nat) : Option Word :=
  match i with
  | 0 => none
  | n + 1 => rom[n]?

/-- R100: IV. The source prints no value; the spec gives these (92_eei_decisions.md D6, log 14). -/
def iv : Quad := ⟨0x67452301, 0xEFCDAB89, 0x98BADCFE, 0x10325476⟩

end Sys2Proof.Machine
end

