-- ==== Sys2Proof/Machine/Ops.lean ====
section
/-! DEFINITION. The named operations over memory and registers, the guards the meanings share, taking the one exception, and
what step fetches next. -/

namespace Sys2Proof.Machine

/-! ### MSG (R30) -/

/-- The byte at address p; an unlisted address holds no value (R235, log 8). -/
def Memory.read (m : Memory) (p : Nat) : Option Byte :=
  match m with
  | [] => none
  | (a, b) :: rest => if a = p then some b else Memory.read rest p

/-- `MSG[p] <- b` (R200), keeping the addresses strictly rising. -/
def Memory.write (m : Memory) (p : Nat) (b : Byte) : Memory :=
  match m with
  | [] => [(p, b)]
  | (a, x) :: rest =>
    if p < a then (p, b) :: (a, x) :: rest
    else if p = a then (p, b) :: rest
    else (a, x) :: Memory.write rest p b

/-- The canonical form: addresses strictly rising. No listed entry can equal what an unlisted address reads as, since that is
no value. -/
def Memory.wf (m : Memory) : Bool :=
  match m with
  | [] => true
  | (a, _) :: rest => rest.all (fun c => decide (a < c.1)) && Memory.wf rest

/-- R11's MemRead(MSG, p, n): the bytes at p, p+1, ..., if each has a value. -/
def Memory.readBytes (m : Memory) (p n : Nat) : Option (List Byte) :=
  match n with
  | 0 => some []
  | n + 1 =>
    match Memory.read m p, Memory.readBytes m (p + 1) n with
    | some b, some bs => some (b :: bs)
    | _, _ => none

/-! ### The capacity MSG_CAP (R7) -/

/-- R212: the length is not above MSG_CAP; no length is above an unbounded one. -/
def fits (c : Config) (l : Nat) : Bool :=
  match c.msgCap with
  | none => true
  | some cap => decide (l ≤ cap)

/-- R30: p is an address of MSG, 0 to MSG_CAP - 1. -/
def hasAddress (c : Config) (p : Nat) : Bool :=
  match c.msgCap with
  | none => true
  | some cap => decide (p < cap)

/-! ### The bus map REG_MAP (R7, R49, 93 U12; log 19) -/

/-- The host registers that sit at a bus address. -/
def registersAt (c : Config) (addr : Nat) : List (Fin 6) :=
  [0, 1, 2, 3, 4, 5].filter (fun r => decide (c.regMap[r] = addr))

/-- The register number a bus address selects: the address of exactly one register selects it, any other selects nothing. -/
def registerAt (c : Config) (addr : Nat) : Option Nat :=
  match registersAt c addr with
  | [r] => some r.val
  | _ => none

/-- The access by register number, or by address in MSG, that an access on the bus is; none where it addresses nothing. -/
def busAccess (c : Config) (b : BusAccess) : Option Access :=
  match b with
  | .write addr v => (registerAt c addr).map (Access.write · v)
  | .read addr idx => (registerAt c addr).map (Access.read · idx)
  | .writeMsg addr b => if c.msgBase ≤ addr then some (.writeMsg (addr - c.msgBase) b) else none

/-- The bus address an access on the bus names. -/
def busAddress (b : BusAccess) : Nat :=
  match b with
  | .write addr _ => addr
  | .read addr _ => addr
  | .writeMsg addr _ => addr

/-- What an access on the bus selects. -/
def busCode (c : Config) (b : BusAccess) : Code :=
  match busAccess c b with
  | some a => .access a
  | none => .unmapped (busAddress b)

/-- The access a host move issues, if it is one. -/
def moveAccess (c : Config) (m : HostMove) : Option Access :=
  match m with
  | .wait => none
  | .resetInput => none
  | .access a => some a
  | .bus b => busAccess c b

/-- The host's pending move issues the access `a`, by register number or on the bus; `rest` are the moves after it. -/
def State.issues (s : State) (a : Access) (rest : List HostMove) : Prop :=
  ∃ m, s.host = m :: rest ∧ moveAccess s.cfg m = some a

/-! ### Named updates of the state -/

def State.setAcc (s : State) (q : Quad) : State := { s with acc := q }
def State.setSaved (s : State) (q : Quad) : State := { s with saved := q }
def State.setX (s : State) (x : Vector Word 16) : State := { s with x := x }
/-- R12: `(phase, blk, op) <- (...)`, the write of the program counter. -/
def State.goTo (s : State) (p : Phase) (n : Nat) (i : BitVec 6) : State := { s with phase := p, blk := n, opidx := i }
def State.setErrcode (s : State) (e : ErrCode) : State := { s with errcode := e }
def State.setLen (s : State) (l : Nat) : State := { s with len := l }
def State.setOutputs (s : State) (d : Option (Vector Byte 16)) (h : Option (Vector Byte 32)) : State :=
  { s with digest := d, hex := h }
def State.setMsg (s : State) (m : Memory) : State := { s with msg := m }
def State.setHost (s : State) (h : List HostMove) : State := { s with host := h }
def State.setOut (s : State) (v : Value) : State := { s with out := some v }
def State.setFree (s : State) (n : Nat) : State := { s with free := n }

/-- R231: the datapath registers get no value ("unspecified"): each is a fresh free value (log 6). -/
def State.scramble (s : State) : State :=
  (((s.setAcc ⟨Config.freeWord s.free, Config.freeWord (s.free + 1), Config.freeWord (s.free + 2), Config.freeWord (s.free + 3)⟩).setSaved
    ⟨Config.freeWord (s.free + 4), Config.freeWord (s.free + 5), Config.freeWord (s.free + 6), Config.freeWord (s.free + 7)⟩).setX
    (Vector.ofFn fun k => Config.freeWord (s.free + 8 + k.val))).setFree (s.free + 24)

/-! ### Guards -/

/-- R12: an operation of the sequencer has a step only in its phase. -/
def whenPhase (p : Phase) (s : State) (k : Host.Outcome State Fault Refusal) : Host.Outcome State Fault Refusal :=
  if s.phase = p then k else .refused .notEnabled

/-- R200, R202: a host command the host must not issue while BUSY. -/
def whenNotBusy (r : Refusal) (s : State) (k : Host.Outcome State Fault Refusal) : Host.Outcome State Fault Refusal :=
  if busy s.phase then .refused r else k

/-! ### The one exception (R211 to R213) -/

/-- R213, taking CapacityFault: `ERRCODE <- 1; phase <- ERR; DIGEST, HEX <- no value`, everything else unchanged. There is no
handler, no saved pc and no mode. -/
def State.raiseCapacityFault (s : State) : State :=
  ((s.setErrcode .capacity).goTo .err s.blk s.opidx).setOutputs none none

/-- R192, R216: an accepted START. It is also the way out of ERR: "There is no return instruction", and "Nothing is restored". -/
def State.acceptStart (s : State) : State :=
  (((s.setErrcode .none).setOutputs none none).setAcc iv).goTo .load 0 0

/-! ### What step fetches (R190, R193 to R198, R208; log 1, 3) -/

/-- The core's next operation: while BUSY, the one the phase and opidx select; otherwise none (R198). -/
def coreFetch (s : State) : Option (Code × State) :=
  if busy s.phase then some (.sequencer s.phase s.opidx, s) else none

/-- The next move: the host's, if it has one pending that is not a wait, else the core's. -/
def fetch (s : State) : Option (Code × State) :=
  match s.host with
  | [] => coreFetch s
  | .wait :: rest => coreFetch (s.setHost rest)
  | .resetInput :: rest => some (.resetInput, s.setHost rest)
  | .access a :: rest => some (.access a, s.setHost rest)
  | .bus b :: rest => some (busCode s.cfg b, s.setHost rest)

/-- Nobody has an enabled step: the machine waits for the host (R198), and a pending wait is used up. -/
def State.waiting (s : State) : State := s.setHost s.host.tail

/-- R68: a CTRL write that sets neither bit, "else nothing". -/
def ctrlNone (s : State) : Host.Outcome State Fault Refusal := .next s

/-- R29: "CTRL holds no value; it reads as 0". -/
def ctrlRead (s : State) : Host.Outcome State Fault Refusal := .next (s.setOut (.ctrl 0))

/-- The state whose next step fetches table word `w` (log 2, 13): for an opidx, the sequencer at that operation with no host move
pending; for any other word, the host about to issue the access the word stands for. -/
def State.placeTableWord (s : State) (w : Nat) : State :=
  match tableCode w with
  | .sequencer p i => (s.setHost []).goTo p s.blk i
  | .access a => s.setHost [.access a]
  | .unmapped _ => s
  | .resetInput => s.setHost [.resetInput]
  | .startInit => s
  | .func _ _ _ _ => s
  | .rom _ => s
  | .padder => s

end Sys2Proof.Machine
end

