-- ==== Sys2Proof/Machine/Formatter.lean ====
section
/-! DEFINITION. The digest formatter (45_digest_formatter.md R180 to R187). -/

namespace Sys2Proof.Machine

/-- R181: `DIGEST[4n + j] = (R[n] >> 8j) mod 256`. -/
def serialize (q : Quad) : Vector Byte 16 :=
  Vector.ofFn fun i => byteOf (q.get (Fin.ofNat 4 (i.val / 4))) (i.val % 4)

/-- R182: the nibble `(w >> (28 − 4q)) mod 16`. -/
def nibble (w : Word) (q : Nat) : BitVec 4 := w.extractLsb' (28 - 4 * q) 4

/-- R182: `HEX[8n + q] = hexdigit((w' >> (28 − 4q)) mod 16)` with w' = bswap32(R[n]). -/
def hexString (r : Quad) : Vector Byte 32 :=
  Vector.ofFn fun i => hexDigit (nibble (bswap32 (r.get (Fin.ofNat 4 (i.val / 8)))) (i.val % 8))

/-- R180, R197: FMT writes DIGEST and HEX, then `phase <- DONE`. -/
def execFmt (s : State) : Host.Outcome State Fault Refusal :=
  whenPhase .fmt s (.next ((s.setOutputs (some (serialize s.acc)) (some (hexString s.acc))).goTo .done s.blk s.opidx))

end Sys2Proof.Machine
end

