-- ==== Sys2Proof/Machine/HostInterface.lean ====
section
/-! DEFINITION. The host commands (46_host_interface.md R192, R199 to R202; 70_reset_and_hazards.md R230, R231). -/

namespace Sys2Proof.Machine

/-- R230, R231: RESET, enabled in every phase, soft or by the reset input. MSG is unchanged; the datapath registers get no value. -/
def execReset (s : State) : Host.Outcome State Fault Refusal :=
  .next ((((s.goTo .idle 0 0).setErrcode .none).setLen 0).setOutputs none none).scramble

/-- R192, R202, R212: START, refused while BUSY; CapacityFault if LEN > MSG_CAP, checked before anything else changes. -/
def execStart (s : State) : Host.Outcome State Fault Refusal :=
  whenNotBusy .startWhileBusy s (if fits s.cfg s.len then .next s.acceptStart else .next s.raiseCapacityFault)

/-- R199, R28: the result is STATUS. -/
def execRdStatus (s : State) : Host.Outcome State Fault Refusal := .next (s.setOut (.status (status s.phase)))

/-- R199, R29: the result is ERRCODE. -/
def execRdErrcode (s : State) : Host.Outcome State Fault Refusal := .next (s.setOut (.errcode (errBits s.errcode)))

/-- R199: the result is LEN. -/
def execRdLen (s : State) : Host.Outcome State Fault Refusal := .next (s.setOut (.len s.len))

/-- R200: `LEN <- v`, refused while BUSY. -/
def execWrLen (v : Nat) (s : State) : Host.Outcome State Fault Refusal :=
  whenNotBusy .writeWhileBusy s (.next (s.setLen v))

/-- R200: `MSG[p] <- b`, refused while BUSY and at p ≥ MSG_CAP (log 21). -/
def execWrMsg (p : Nat) (b : Byte) (s : State) : Host.Outcome State Fault Refusal :=
  whenNotBusy .writeWhileBusy s
    (if hasAddress s.cfg p then .next (s.setMsg (s.msg.write p b)) else .refused .beyondCapacity)

/-- R201: one cell of an output, readable only in DONE and only when it holds a value (U4). That DONE is tested before
the cell is the model's choice; in a step the decoder has refused a cell that does not exist before this is reached (log 21). -/
def readOutput {n : Nat} (out : Option (Vector Byte n)) (i : Nat) (wrap : Byte → Value) (s : State) :
    Host.Outcome State Fault Refusal :=
  if s.phase = .done then
    match out with
    | some v => if h : i < n then .next (s.setOut (wrap v[i])) else .refused .noSuchCell
    | none => .refused .outputNotValid
  else .refused .outputNotValid

/-- R201: the result is DIGEST[m]. -/
def execRdDigest (m : Nat) (s : State) : Host.Outcome State Fault Refusal := readOutput s.digest m .digest s

/-- R201: the result is HEX[q]. -/
def execRdHex (q : Nat) (s : State) : Host.Outcome State Fault Refusal := readOutput s.hex q .hex s

end Sys2Proof.Machine
end

