-- ==== Sys2Proof/Machine/Preprocessor.lean ====
section
/-! DEFINITION. The preprocessor (40_preprocessor.md): the padded buffer as the contract's three steps (R80) and as a byte function
(R84), the block count (R82), and PAD as a row of the operation table. -/

namespace Sys2Proof.Machine

/-- R82: N, the number of blocks of the padded buffer, `floor((L + 8) / 64) + 1`. -/
def blocks (l : Nat) : Nat := (l + 8) / 64 + 1

/-- R83: the value of the length field, `(8 × L) mod 2^64`. -/
def lengthField (l : Nat) : BitVec 64 := BitVec.ofNat 64 (8 * l)

/-- R80: `while length mod 64 != 56 : append 0x00`, with as many tests as `fuel`; 64 suffice, since a length reaches 56 mod 64
within 63 appends. -/
def zeroFill (fuel : Nat) (buf : List Byte) : List Byte :=
  match fuel with
  | 0 => buf
  | fuel + 1 => if buf.length % 64 = 56 then buf else zeroFill fuel (buf ++ [0x00])

/-- R80: the padded buffer of the message `m`. -/
def padMessage (m : List Byte) : List Byte := zeroFill 64 (m ++ [0x80]) ++ le64bytes (lengthField m.length)

/-- R84: PB[p] for the message of length `l` in MSG; none where PB has no such address, or where it is a message byte that
nothing has written. -/
def pbByte (m : Memory) (l p : Nat) : Option Byte :=
  if p < l then m.read p
  else if p = l then some 0x80
  else if p < 64 * blocks l - 8 then some 0x00
  else if p < 64 * blocks l then some (byteOf (lengthField l) (p - (64 * blocks l - 8)))
  else none

/-- R80: PAD on the message MSG[0..LEN); the result is the value returned. -/
def execPad (s : State) : Host.Outcome State Fault Refusal :=
  match s.msg.readBytes 0 s.len with
  | some m => .next (s.setOut (.buffer (padMessage m)))
  | none => .refused .unwrittenMsgByte

end Sys2Proof.Machine
end

