-- ==== Sys2Proof/Machine/RoundFunctions.lean ====
section
/-! DEFINITION. The functions F, G, H, I (41_round_functions.md R90 to R94) and TROM (42_constant_table.md R95), and what they do
as rows of the operation table: they read and write no register; the result is the value returned (log 9, 11). -/

namespace Sys2Proof.Machine

/-- R91: `F(X,Y,Z) = (X AND Y) OR ((NOT X) AND Z)`. -/
def roundF (x y z : Word) : Word := (x &&& y) ||| (~~~x &&& z)

/-- R92: `G(X,Y,Z) = (X AND Z) OR (Y AND (NOT Z))`. -/
def roundG (x y z : Word) : Word := (x &&& z) ||| (y &&& ~~~z)

/-- R93: `H(X,Y,Z) = X XOR Y XOR Z`. -/
def roundH (x y z : Word) : Word := x ^^^ y ^^^ z

/-- R94: `I(X,Y,Z) = Y XOR (X OR (NOT Z))`. -/
def roundI (x y z : Word) : Word := y ^^^ (x ||| ~~~z)

/-- R90, R104: the round function an operation's `fn` names, on the accumulators playing b, c, d. -/
def applyFn (fn : RoundFn) (x y z : Word) : Word :=
  match fn with
  | .f => roundF x y z
  | .g => roundG x y z
  | .h => roundH x y z
  | .i => roundI x y z

/-- R91. -/
def execFnF (x y z : Word) (s : State) : Host.Outcome State Fault Refusal := .next (s.setOut (.word (roundF x y z)))

/-- R92. -/
def execFnG (x y z : Word) (s : State) : Host.Outcome State Fault Refusal := .next (s.setOut (.word (roundG x y z)))

/-- R93. -/
def execFnH (x y z : Word) (s : State) : Host.Outcome State Fault Refusal := .next (s.setOut (.word (roundH x y z)))

/-- R94. -/
def execFnI (x y z : Word) (s : State) : Host.Outcome State Fault Refusal := .next (s.setOut (.word (roundI x y z)))

/-- R95: the lookup; an index outside 1..64 has no entry and is refused (93 U8). -/
def execTrom (i : Nat) (s : State) : Host.Outcome State Fault Refusal :=
  match trom? i with
  | some w => .next (s.setOut (.word w))
  | none => .refused .noSuchConstant

end Sys2Proof.Machine
end

