-- ==== Sys2Proof/Machine/Engine.lean ====
section
/-! DEFINITION. The compression engine's sequencer operations (43_compression_engine.md): INIT, LOAD, SAVE, FEED, and the generic
operation that OP1 to OP64 share (R104). -/

namespace Sys2Proof.Machine

/-- R100: `(A,B,C,D) <- IV`. It is part of an accepted START; as a row of its own it does just this (log 11). -/
def execInit (s : State) : Host.Outcome State Fault Refusal := .next (s.setAcc iv)

/-- All the values of a finite family, if each has one. -/
def allSome {α : Type} {n : Nat} (f : Fin n → Option α) : Option (Vector α n) :=
  if h : ∀ i, (f i).isSome then some (Vector.ofFn fun i => (f i).get (h i)) else none

/-- R40, R102: the little-endian word at padded-buffer address `p`. -/
def pbWord (m : Memory) (l p : Nat) : Option Word :=
  match pbByte m l p, pbByte m l (p + 1), pbByte m l (p + 2), pbByte m l (p + 3) with
  | some b0, some b1, some b2, some b3 => some (le32 b0 b1 b2 b3)
  | _, _, _, _ => none

/-- R102: the sixteen words of the block at `base = 64 × blk`. -/
def blockWords (m : Memory) (l blk : Nat) : Option (Vector Word 16) :=
  allSome fun k : Fin 16 => pbWord m l (64 * blk + 4 * k.val)

/-- R102, R193: LOAD(blk), then `phase <- SAVE`. A block at or beyond N is a fault (log 17), an unwritten message byte a refusal
(R235). -/
def execLoad (s : State) : Host.Outcome State Fault Refusal :=
  whenPhase .load s
    (if s.blk < blocks s.len then
      match blockWords s.msg s.len s.blk with
      | some x => .next ((s.setX x).goTo .save s.blk s.opidx)
      | none => .refused .unwrittenMsgByte
    else .fault .outsidePaddedBuffer)

/-- R103, R194: SAVE, then `op <- 1; phase <- STEP`. -/
def execSave (s : State) : Host.Outcome State Fault Refusal :=
  whenPhase .save s (.next ((s.setSaved s.acc).goTo .step s.blk 0))

/-- R104: the new accumulators. The four-term sum is reduced to 32 bits before it is rotated (R107 b); b, c, d keep their
values, and both reads of b see the old value (R107 d). -/
def operate (d : Descr) (x : Vector Word 16) (q : Quad) : Quad :=
  q.set d.dst
    (q.get (d.dst + 1)
      + rotl32 (q.get d.dst + applyFn d.fn (q.get (d.dst + 1)) (q.get (d.dst + 2)) (q.get (d.dst + 3)) + x[d.k] + romAt d.opidx) d.s)

/-- R195: "if i < 64, `op <- i + 1`; if i = 64, `phase <- FEED`". -/
def State.afterOperation (s : State) : State :=
  if s.opidx.toNat < 63 then s.goTo .step s.blk (s.opidx + 1) else s.goTo .feed s.blk s.opidx

/-- R104, R195: the operation with descriptor `d`, enabled in phase STEP with op = i (R12), and the sequencer's advance. -/
def runOperation (d : Descr) (s : State) : Host.Outcome State Fault Refusal :=
  whenPhase .step s
    (if s.opidx = d.opidx then .next (s.setAcc (operate d s.x s.acc)).afterOperation else .refused .notEnabled)

/-- R196: "if blk + 1 < N, `blk <- blk + 1; phase <- LOAD`; otherwise `phase <- FMT`". -/
def State.afterFeed (s : State) : State :=
  if s.blk + 1 < blocks s.len then s.goTo .load (s.blk + 1) s.opidx else s.goTo .fmt s.blk s.opidx

/-- R175, R196: FEED, then the next block or FMT. -/
def execFeed (s : State) : Host.Outcome State Fault Refusal :=
  whenPhase .feed s (.next (s.setAcc (s.acc.add s.saved)).afterFeed)

end Sys2Proof.Machine
end

