-- ==== Sys2Proof/Machine/Operations.lean ====
section
/-! DEFINITION. OP1 to OP64 (44_compression_operations.md R111 to R174), each with the descriptor its own rule gives:
opidx, fn, k, s, dst. What they share is `runOperation` (R104, R195). -/

namespace Sys2Proof.Machine

/-- R111: `A <- add32(B, rotl32(add32(A, F(B,C,D), X[0], 0xD76AA478), 7))`. -/
def execOp1 (s : State) : Host.Outcome State Fault Refusal := runOperation ⟨0, .f, 0, 7, 0⟩ s

/-- R112: `D <- add32(A, rotl32(add32(D, F(A,B,C), X[1], 0xE8C7B756), 12))`. -/
def execOp2 (s : State) : Host.Outcome State Fault Refusal := runOperation ⟨1, .f, 1, 12, 3⟩ s

/-- R113: `C <- add32(D, rotl32(add32(C, F(D,A,B), X[2], 0x242070DB), 17))`. -/
def execOp3 (s : State) : Host.Outcome State Fault Refusal := runOperation ⟨2, .f, 2, 17, 2⟩ s

/-- R114: `B <- add32(C, rotl32(add32(B, F(C,D,A), X[3], 0xC1BDCEEE), 22))`. -/
def execOp4 (s : State) : Host.Outcome State Fault Refusal := runOperation ⟨3, .f, 3, 22, 1⟩ s

/-- R115: `A <- add32(B, rotl32(add32(A, F(B,C,D), X[4], 0xF57C0FAF), 7))`. -/
def execOp5 (s : State) : Host.Outcome State Fault Refusal := runOperation ⟨4, .f, 4, 7, 0⟩ s

/-- R116: `D <- add32(A, rotl32(add32(D, F(A,B,C), X[5], 0x4787C62A), 12))`. -/
def execOp6 (s : State) : Host.Outcome State Fault Refusal := runOperation ⟨5, .f, 5, 12, 3⟩ s

/-- R117: `C <- add32(D, rotl32(add32(C, F(D,A,B), X[6], 0xA8304613), 17))`. -/
def execOp7 (s : State) : Host.Outcome State Fault Refusal := runOperation ⟨6, .f, 6, 17, 2⟩ s

/-- R118: `B <- add32(C, rotl32(add32(B, F(C,D,A), X[7], 0xFD469501), 22))`. -/
def execOp8 (s : State) : Host.Outcome State Fault Refusal := runOperation ⟨7, .f, 7, 22, 1⟩ s

/-- R119: `A <- add32(B, rotl32(add32(A, F(B,C,D), X[8], 0x698098D8), 7))`. -/
def execOp9 (s : State) : Host.Outcome State Fault Refusal := runOperation ⟨8, .f, 8, 7, 0⟩ s

/-- R120: `D <- add32(A, rotl32(add32(D, F(A,B,C), X[9], 0x8B44F7AF), 12))`. -/
def execOp10 (s : State) : Host.Outcome State Fault Refusal := runOperation ⟨9, .f, 9, 12, 3⟩ s

/-- R121: `C <- add32(D, rotl32(add32(C, F(D,A,B), X[10], 0xFFFF5BB1), 17))`. -/
def execOp11 (s : State) : Host.Outcome State Fault Refusal := runOperation ⟨10, .f, 10, 17, 2⟩ s

/-- R122: `B <- add32(C, rotl32(add32(B, F(C,D,A), X[11], 0x895CD7BE), 22))`. -/
def execOp12 (s : State) : Host.Outcome State Fault Refusal := runOperation ⟨11, .f, 11, 22, 1⟩ s

/-- R123: `A <- add32(B, rotl32(add32(A, F(B,C,D), X[12], 0x6B901122), 7))`. -/
def execOp13 (s : State) : Host.Outcome State Fault Refusal := runOperation ⟨12, .f, 12, 7, 0⟩ s

/-- R124: `D <- add32(A, rotl32(add32(D, F(A,B,C), X[13], 0xFD987193), 12))`. -/
def execOp14 (s : State) : Host.Outcome State Fault Refusal := runOperation ⟨13, .f, 13, 12, 3⟩ s

/-- R125: `C <- add32(D, rotl32(add32(C, F(D,A,B), X[14], 0xA679438E), 17))`. -/
def execOp15 (s : State) : Host.Outcome State Fault Refusal := runOperation ⟨14, .f, 14, 17, 2⟩ s

/-- R126: `B <- add32(C, rotl32(add32(B, F(C,D,A), X[15], 0x49B40821), 22))`. -/
def execOp16 (s : State) : Host.Outcome State Fault Refusal := runOperation ⟨15, .f, 15, 22, 1⟩ s

/-- R127: `A <- add32(B, rotl32(add32(A, G(B,C,D), X[1], 0xF61E2562), 5))`. -/
def execOp17 (s : State) : Host.Outcome State Fault Refusal := runOperation ⟨16, .g, 1, 5, 0⟩ s

/-- R128: `D <- add32(A, rotl32(add32(D, G(A,B,C), X[6], 0xC040B340), 9))`. -/
def execOp18 (s : State) : Host.Outcome State Fault Refusal := runOperation ⟨17, .g, 6, 9, 3⟩ s

/-- R129: `C <- add32(D, rotl32(add32(C, G(D,A,B), X[11], 0x265E5A51), 14))`. -/
def execOp19 (s : State) : Host.Outcome State Fault Refusal := runOperation ⟨18, .g, 11, 14, 2⟩ s

/-- R130: `B <- add32(C, rotl32(add32(B, G(C,D,A), X[0], 0xE9B6C7AA), 20))`. -/
def execOp20 (s : State) : Host.Outcome State Fault Refusal := runOperation ⟨19, .g, 0, 20, 1⟩ s

/-- R131: `A <- add32(B, rotl32(add32(A, G(B,C,D), X[5], 0xD62F105D), 5))`. -/
def execOp21 (s : State) : Host.Outcome State Fault Refusal := runOperation ⟨20, .g, 5, 5, 0⟩ s

/-- R132: `D <- add32(A, rotl32(add32(D, G(A,B,C), X[10], 0x02441453), 9))`. -/
def execOp22 (s : State) : Host.Outcome State Fault Refusal := runOperation ⟨21, .g, 10, 9, 3⟩ s

/-- R133: `C <- add32(D, rotl32(add32(C, G(D,A,B), X[15], 0xD8A1E681), 14))`. -/
def execOp23 (s : State) : Host.Outcome State Fault Refusal := runOperation ⟨22, .g, 15, 14, 2⟩ s

/-- R134: `B <- add32(C, rotl32(add32(B, G(C,D,A), X[4], 0xE7D3FBC8), 20))`. -/
def execOp24 (s : State) : Host.Outcome State Fault Refusal := runOperation ⟨23, .g, 4, 20, 1⟩ s

/-- R135: `A <- add32(B, rotl32(add32(A, G(B,C,D), X[9], 0x21E1CDE6), 5))`. -/
def execOp25 (s : State) : Host.Outcome State Fault Refusal := runOperation ⟨24, .g, 9, 5, 0⟩ s

/-- R136: `D <- add32(A, rotl32(add32(D, G(A,B,C), X[14], 0xC33707D6), 9))`. -/
def execOp26 (s : State) : Host.Outcome State Fault Refusal := runOperation ⟨25, .g, 14, 9, 3⟩ s

/-- R137: `C <- add32(D, rotl32(add32(C, G(D,A,B), X[3], 0xF4D50D87), 14))`. -/
def execOp27 (s : State) : Host.Outcome State Fault Refusal := runOperation ⟨26, .g, 3, 14, 2⟩ s

/-- R138: `B <- add32(C, rotl32(add32(B, G(C,D,A), X[8], 0x455A14ED), 20))`. -/
def execOp28 (s : State) : Host.Outcome State Fault Refusal := runOperation ⟨27, .g, 8, 20, 1⟩ s

/-- R139: `A <- add32(B, rotl32(add32(A, G(B,C,D), X[13], 0xA9E3E905), 5))`. -/
def execOp29 (s : State) : Host.Outcome State Fault Refusal := runOperation ⟨28, .g, 13, 5, 0⟩ s

/-- R140: `D <- add32(A, rotl32(add32(D, G(A,B,C), X[2], 0xFCEFA3F8), 9))`. -/
def execOp30 (s : State) : Host.Outcome State Fault Refusal := runOperation ⟨29, .g, 2, 9, 3⟩ s

/-- R141: `C <- add32(D, rotl32(add32(C, G(D,A,B), X[7], 0x676F02D9), 14))`. -/
def execOp31 (s : State) : Host.Outcome State Fault Refusal := runOperation ⟨30, .g, 7, 14, 2⟩ s

/-- R142: `B <- add32(C, rotl32(add32(B, G(C,D,A), X[12], 0x8D2A4C8A), 20))`. -/
def execOp32 (s : State) : Host.Outcome State Fault Refusal := runOperation ⟨31, .g, 12, 20, 1⟩ s

/-- R143: `A <- add32(B, rotl32(add32(A, H(B,C,D), X[5], 0xFFFA3942), 4))`. -/
def execOp33 (s : State) : Host.Outcome State Fault Refusal := runOperation ⟨32, .h, 5, 4, 0⟩ s

/-- R144: `D <- add32(A, rotl32(add32(D, H(A,B,C), X[8], 0x8771F681), 11))`. -/
def execOp34 (s : State) : Host.Outcome State Fault Refusal := runOperation ⟨33, .h, 8, 11, 3⟩ s

/-- R145: `C <- add32(D, rotl32(add32(C, H(D,A,B), X[11], 0x6D9D6122), 16))`. -/
def execOp35 (s : State) : Host.Outcome State Fault Refusal := runOperation ⟨34, .h, 11, 16, 2⟩ s

/-- R146: `B <- add32(C, rotl32(add32(B, H(C,D,A), X[14], 0xFDE5380C), 23))`. -/
def execOp36 (s : State) : Host.Outcome State Fault Refusal := runOperation ⟨35, .h, 14, 23, 1⟩ s

/-- R147: `A <- add32(B, rotl32(add32(A, H(B,C,D), X[1], 0xA4BEEA44), 4))`. -/
def execOp37 (s : State) : Host.Outcome State Fault Refusal := runOperation ⟨36, .h, 1, 4, 0⟩ s

/-- R148: `D <- add32(A, rotl32(add32(D, H(A,B,C), X[4], 0x4BDECFA9), 11))`. -/
def execOp38 (s : State) : Host.Outcome State Fault Refusal := runOperation ⟨37, .h, 4, 11, 3⟩ s

/-- R149: `C <- add32(D, rotl32(add32(C, H(D,A,B), X[7], 0xF6BB4B60), 16))`. -/
def execOp39 (s : State) : Host.Outcome State Fault Refusal := runOperation ⟨38, .h, 7, 16, 2⟩ s

/-- R150: `B <- add32(C, rotl32(add32(B, H(C,D,A), X[10], 0xBEBFBC70), 23))`. -/
def execOp40 (s : State) : Host.Outcome State Fault Refusal := runOperation ⟨39, .h, 10, 23, 1⟩ s

/-- R151: `A <- add32(B, rotl32(add32(A, H(B,C,D), X[13], 0x289B7EC6), 4))`. -/
def execOp41 (s : State) : Host.Outcome State Fault Refusal := runOperation ⟨40, .h, 13, 4, 0⟩ s

/-- R152: `D <- add32(A, rotl32(add32(D, H(A,B,C), X[0], 0xEAA127FA), 11))`. -/
def execOp42 (s : State) : Host.Outcome State Fault Refusal := runOperation ⟨41, .h, 0, 11, 3⟩ s

/-- R153: `C <- add32(D, rotl32(add32(C, H(D,A,B), X[3], 0xD4EF3085), 16))`. -/
def execOp43 (s : State) : Host.Outcome State Fault Refusal := runOperation ⟨42, .h, 3, 16, 2⟩ s

/-- R154: `B <- add32(C, rotl32(add32(B, H(C,D,A), X[6], 0x04881D05), 23))`. -/
def execOp44 (s : State) : Host.Outcome State Fault Refusal := runOperation ⟨43, .h, 6, 23, 1⟩ s

/-- R155: `A <- add32(B, rotl32(add32(A, H(B,C,D), X[9], 0xD9D4D039), 4))`. -/
def execOp45 (s : State) : Host.Outcome State Fault Refusal := runOperation ⟨44, .h, 9, 4, 0⟩ s

/-- R156: `D <- add32(A, rotl32(add32(D, H(A,B,C), X[12], 0xE6DB99E5), 11))`. -/
def execOp46 (s : State) : Host.Outcome State Fault Refusal := runOperation ⟨45, .h, 12, 11, 3⟩ s

/-- R157: `C <- add32(D, rotl32(add32(C, H(D,A,B), X[15], 0x1FA27CF8), 16))`. -/
def execOp47 (s : State) : Host.Outcome State Fault Refusal := runOperation ⟨46, .h, 15, 16, 2⟩ s

/-- R158: `B <- add32(C, rotl32(add32(B, H(C,D,A), X[2], 0xC4AC5665), 23))`. -/
def execOp48 (s : State) : Host.Outcome State Fault Refusal := runOperation ⟨47, .h, 2, 23, 1⟩ s

/-- R159: `A <- add32(B, rotl32(add32(A, I(B,C,D), X[0], 0xF4292244), 6))`. -/
def execOp49 (s : State) : Host.Outcome State Fault Refusal := runOperation ⟨48, .i, 0, 6, 0⟩ s

/-- R160: `D <- add32(A, rotl32(add32(D, I(A,B,C), X[7], 0x432AFF97), 10))`. -/
def execOp50 (s : State) : Host.Outcome State Fault Refusal := runOperation ⟨49, .i, 7, 10, 3⟩ s

/-- R161: `C <- add32(D, rotl32(add32(C, I(D,A,B), X[14], 0xAB9423A7), 15))`. -/
def execOp51 (s : State) : Host.Outcome State Fault Refusal := runOperation ⟨50, .i, 14, 15, 2⟩ s

/-- R162: `B <- add32(C, rotl32(add32(B, I(C,D,A), X[5], 0xFC93A039), 21))`. -/
def execOp52 (s : State) : Host.Outcome State Fault Refusal := runOperation ⟨51, .i, 5, 21, 1⟩ s

/-- R163: `A <- add32(B, rotl32(add32(A, I(B,C,D), X[12], 0x655B59C3), 6))`. -/
def execOp53 (s : State) : Host.Outcome State Fault Refusal := runOperation ⟨52, .i, 12, 6, 0⟩ s

/-- R164: `D <- add32(A, rotl32(add32(D, I(A,B,C), X[3], 0x8F0CCC92), 10))`. -/
def execOp54 (s : State) : Host.Outcome State Fault Refusal := runOperation ⟨53, .i, 3, 10, 3⟩ s

/-- R165: `C <- add32(D, rotl32(add32(C, I(D,A,B), X[10], 0xFFEFF47D), 15))`. -/
def execOp55 (s : State) : Host.Outcome State Fault Refusal := runOperation ⟨54, .i, 10, 15, 2⟩ s

/-- R166: `B <- add32(C, rotl32(add32(B, I(C,D,A), X[1], 0x85845DD1), 21))`. -/
def execOp56 (s : State) : Host.Outcome State Fault Refusal := runOperation ⟨55, .i, 1, 21, 1⟩ s

/-- R167: `A <- add32(B, rotl32(add32(A, I(B,C,D), X[8], 0x6FA87E4F), 6))`. -/
def execOp57 (s : State) : Host.Outcome State Fault Refusal := runOperation ⟨56, .i, 8, 6, 0⟩ s

/-- R168: `D <- add32(A, rotl32(add32(D, I(A,B,C), X[15], 0xFE2CE6E0), 10))`. -/
def execOp58 (s : State) : Host.Outcome State Fault Refusal := runOperation ⟨57, .i, 15, 10, 3⟩ s

/-- R169: `C <- add32(D, rotl32(add32(C, I(D,A,B), X[6], 0xA3014314), 15))`. -/
def execOp59 (s : State) : Host.Outcome State Fault Refusal := runOperation ⟨58, .i, 6, 15, 2⟩ s

/-- R170: `B <- add32(C, rotl32(add32(B, I(C,D,A), X[13], 0x4E0811A1), 21))`. -/
def execOp60 (s : State) : Host.Outcome State Fault Refusal := runOperation ⟨59, .i, 13, 21, 1⟩ s

/-- R171: `A <- add32(B, rotl32(add32(A, I(B,C,D), X[4], 0xF7537E82), 6))`. -/
def execOp61 (s : State) : Host.Outcome State Fault Refusal := runOperation ⟨60, .i, 4, 6, 0⟩ s

/-- R172: `D <- add32(A, rotl32(add32(D, I(A,B,C), X[11], 0xBD3AF235), 10))`. -/
def execOp62 (s : State) : Host.Outcome State Fault Refusal := runOperation ⟨61, .i, 11, 10, 3⟩ s

/-- R173: `C <- add32(D, rotl32(add32(C, I(D,A,B), X[2], 0x2AD7D2BB), 15))`. -/
def execOp63 (s : State) : Host.Outcome State Fault Refusal := runOperation ⟨62, .i, 2, 15, 2⟩ s

/-- R174: `B <- add32(C, rotl32(add32(B, I(C,D,A), X[9], 0xEB86D391), 21))`. -/
def execOp64 (s : State) : Host.Outcome State Fault Refusal := runOperation ⟨63, .i, 9, 21, 1⟩ s

end Sys2Proof.Machine
end

