-- ==== Sys2Proof/Machine/Dispatch.lean ====
section
/-! DEFINITION. The dispatch: one arm for each constructor of `Instr`, each one call of its meaning. -/

namespace Sys2Proof.Machine

def exec (i : Instr) (s : State) : Host.Outcome State Fault Refusal :=
  match i with
  | .reset => Sys2Proof.Machine.execReset s
  | .start => Sys2Proof.Machine.execStart s
  | .rdStatus => Sys2Proof.Machine.execRdStatus s
  | .rdErrcode => Sys2Proof.Machine.execRdErrcode s
  | .rdLen => Sys2Proof.Machine.execRdLen s
  | .wrLen v => Sys2Proof.Machine.execWrLen v s
  | .rdDigest m => Sys2Proof.Machine.execRdDigest m s
  | .rdHex q => Sys2Proof.Machine.execRdHex q s
  | .wrMsg p b => Sys2Proof.Machine.execWrMsg p b s
  | .init => Sys2Proof.Machine.execInit s
  | .load => Sys2Proof.Machine.execLoad s
  | .save => Sys2Proof.Machine.execSave s
  | .op1 => Sys2Proof.Machine.execOp1 s
  | .op2 => Sys2Proof.Machine.execOp2 s
  | .op3 => Sys2Proof.Machine.execOp3 s
  | .op4 => Sys2Proof.Machine.execOp4 s
  | .op5 => Sys2Proof.Machine.execOp5 s
  | .op6 => Sys2Proof.Machine.execOp6 s
  | .op7 => Sys2Proof.Machine.execOp7 s
  | .op8 => Sys2Proof.Machine.execOp8 s
  | .op9 => Sys2Proof.Machine.execOp9 s
  | .op10 => Sys2Proof.Machine.execOp10 s
  | .op11 => Sys2Proof.Machine.execOp11 s
  | .op12 => Sys2Proof.Machine.execOp12 s
  | .op13 => Sys2Proof.Machine.execOp13 s
  | .op14 => Sys2Proof.Machine.execOp14 s
  | .op15 => Sys2Proof.Machine.execOp15 s
  | .op16 => Sys2Proof.Machine.execOp16 s
  | .op17 => Sys2Proof.Machine.execOp17 s
  | .op18 => Sys2Proof.Machine.execOp18 s
  | .op19 => Sys2Proof.Machine.execOp19 s
  | .op20 => Sys2Proof.Machine.execOp20 s
  | .op21 => Sys2Proof.Machine.execOp21 s
  | .op22 => Sys2Proof.Machine.execOp22 s
  | .op23 => Sys2Proof.Machine.execOp23 s
  | .op24 => Sys2Proof.Machine.execOp24 s
  | .op25 => Sys2Proof.Machine.execOp25 s
  | .op26 => Sys2Proof.Machine.execOp26 s
  | .op27 => Sys2Proof.Machine.execOp27 s
  | .op28 => Sys2Proof.Machine.execOp28 s
  | .op29 => Sys2Proof.Machine.execOp29 s
  | .op30 => Sys2Proof.Machine.execOp30 s
  | .op31 => Sys2Proof.Machine.execOp31 s
  | .op32 => Sys2Proof.Machine.execOp32 s
  | .op33 => Sys2Proof.Machine.execOp33 s
  | .op34 => Sys2Proof.Machine.execOp34 s
  | .op35 => Sys2Proof.Machine.execOp35 s
  | .op36 => Sys2Proof.Machine.execOp36 s
  | .op37 => Sys2Proof.Machine.execOp37 s
  | .op38 => Sys2Proof.Machine.execOp38 s
  | .op39 => Sys2Proof.Machine.execOp39 s
  | .op40 => Sys2Proof.Machine.execOp40 s
  | .op41 => Sys2Proof.Machine.execOp41 s
  | .op42 => Sys2Proof.Machine.execOp42 s
  | .op43 => Sys2Proof.Machine.execOp43 s
  | .op44 => Sys2Proof.Machine.execOp44 s
  | .op45 => Sys2Proof.Machine.execOp45 s
  | .op46 => Sys2Proof.Machine.execOp46 s
  | .op47 => Sys2Proof.Machine.execOp47 s
  | .op48 => Sys2Proof.Machine.execOp48 s
  | .op49 => Sys2Proof.Machine.execOp49 s
  | .op50 => Sys2Proof.Machine.execOp50 s
  | .op51 => Sys2Proof.Machine.execOp51 s
  | .op52 => Sys2Proof.Machine.execOp52 s
  | .op53 => Sys2Proof.Machine.execOp53 s
  | .op54 => Sys2Proof.Machine.execOp54 s
  | .op55 => Sys2Proof.Machine.execOp55 s
  | .op56 => Sys2Proof.Machine.execOp56 s
  | .op57 => Sys2Proof.Machine.execOp57 s
  | .op58 => Sys2Proof.Machine.execOp58 s
  | .op59 => Sys2Proof.Machine.execOp59 s
  | .op60 => Sys2Proof.Machine.execOp60 s
  | .op61 => Sys2Proof.Machine.execOp61 s
  | .op62 => Sys2Proof.Machine.execOp62 s
  | .op63 => Sys2Proof.Machine.execOp63 s
  | .op64 => Sys2Proof.Machine.execOp64 s
  | .feed => Sys2Proof.Machine.execFeed s
  | .fmt => Sys2Proof.Machine.execFmt s
  | .pad => Sys2Proof.Machine.execPad s
  | .fnF x y z => Sys2Proof.Machine.execFnF x y z s
  | .fnG x y z => Sys2Proof.Machine.execFnG x y z s
  | .fnH x y z => Sys2Proof.Machine.execFnH x y z s
  | .fnI x y z => Sys2Proof.Machine.execFnI x y z s
  | .trom n => Sys2Proof.Machine.execTrom n s

end Sys2Proof.Machine
end

