-- ==== Sys2Proof/Machine/Step.lean ====
section
/-! DEFINITION. One step of the machine: fetch the next move, decode it, run it. -/

namespace Sys2Proof.Machine

/-- R208: one step of the agent whose move is next (log 1). Where nobody has an enabled step the machine waits (R198, log 3). -/
def step (s : State) : Host.Outcome State Fault Refusal :=
  match fetch s with
  | none => .next s.waiting
  | some (c, t) =>
    match decode c with
    | .op i => exec i t
    | .ctrlNone => ctrlNone t
    | .ctrlRead => ctrlRead t
    | .reject why => .refused (.rejected why)

/-- `s` with the instruction of table word `w` where step fetches its next one (log 2, 13). -/
def State.withFetchWord (s : State) (_nbits w : Nat) : State := s.placeTableWord w

end Sys2Proof.Machine
end

