-- ==== Sys2Proof/Machine/Functional.lean ====
section
/-! DEFINITION. The functional reading of the hardware (00_scope.md R13): the one total function from byte sequences to digests,
independent of the sequencer. Statements compare the machine's runs with it; the machine does not use it. -/

namespace Sys2Proof.Machine

/-- R101: the composition of the first n operations, OPn ∘ ... ∘ OP1, in index order. -/
def opsUpTo (x : Vector Word 16) (q : Quad) (n : Nat) : Quad :=
  match n with
  | 0 => q
  | n + 1 => operate (descrOf (BitVec.ofNat 6 n)) x (opsUpTo x q n)

/-- R101: `Compress(st, block) = st + Ops64(st, Decode(block))` componentwise modulo 2^32. -/
def compress (q : Quad) (x : Vector Word 16) : Quad := (opsUpTo x q 64).add q

/-- R62: the word at byte offset p of a buffer. An offset below the buffer's length is all that is ever asked for. -/
def wordAt (buf : List Byte) (p : Nat) : Word :=
  le32 (buf.getD p 0) (buf.getD (p + 1) 0) (buf.getD (p + 2) 0) (buf.getD (p + 3) 0)

/-- R62: block n of a padded buffer as sixteen words. -/
def bufWords (buf : List Byte) (n : Nat) : Vector Word 16 :=
  Vector.ofFn fun k => wordAt buf (64 * n + 4 * k.val)

/-- R13, R176: the block chain, `st_0 = IV` and `st_n+1 = Compress(st_n, PBuf[64n .. 64n+63])`. -/
def chain (buf : List Byte) (n : Nat) : Quad :=
  match n with
  | 0 => iv
  | n + 1 => compress (chain buf n) (bufWords buf n)

/-- R13: st_N of MD5core(M), with `N = length(PBuf) / 64`. -/
def md5core (m : List Byte) : Quad := chain (padMessage m) ((padMessage m).length / 64)

/-- R109: the four registers (a,b,c,d) of the equivalent shifting form after one operation, `(a, b, c, d) <- (d, new, b, c)`. -/
def shiftOperate (d : Descr) (x : Vector Word 16) (q : Quad) : Quad :=
  ⟨q.d, q.b + rotl32 (q.a + applyFn d.fn q.b q.c q.d + x[d.k] + romAt d.opidx) d.s, q.b, q.c⟩

/-- R109: the first n operations of a block in the shifting form. -/
def shiftOpsUpTo (x : Vector Word 16) (q : Quad) (n : Nat) : Quad :=
  match n with
  | 0 => q
  | n + 1 => shiftOperate (descrOf (BitVec.ofNat 6 n)) x (shiftOpsUpTo x q n)

end Sys2Proof.Machine
end

