-- ==== Sys2Proof/Safety.lean ====
section
/-! DEFINITION. What the statements call a good state: the invariant of the control state, the memory and the outputs (`Inv`), the
invariant that ties a run to the functional reading (`OnTrack`), and runs of the core with no host move pending. -/

namespace Sys2Proof.Machine

/-- What holds at reset and after every step. -/
structure Inv (s : State) : Prop where
  /-- MSG keeps its canonical form. -/
  msgWf : Memory.wf s.msg = true
  /-- R30: MSG has the addresses 0 to MSG_CAP - 1 only. -/
  msgInCap : ∀ c ∈ s.msg, hasAddress s.cfg c.1 = true
  /-- R192, R236: a run is only ever of a message that fits. -/
  lenFits : busy s.phase = true → fits s.cfg s.len = true
  /-- R24: "the index of the block being processed, 0 ≤ blk < N". -/
  blkInRange : busy s.phase = true → s.blk < blocks s.len
  /-- R29, R213, R216: ERRCODE is CAPACITY exactly in phase ERR. -/
  errcodeIffErr : s.errcode = .capacity ↔ s.phase = .err
  /-- R32, R33, R198: in DONE the outputs hold the accumulators' digest. -/
  outputsInDone : s.phase = .done → s.digest = some (serialize s.acc) ∧ s.hex = some (hexString s.acc)
  /-- R37: outside DONE the outputs hold no value. -/
  outputsElsewhere : s.phase ≠ .done → s.digest = none ∧ s.hex = none

/-- R101, R176: where a run stands, for a message all of whose bytes have a value. -/
def OnTrack (s : State) : Prop :=
  ∀ m, Memory.readBytes s.msg 0 s.len = some m →
    match s.phase with
    | .load => s.acc = chain (padMessage m) s.blk
    | .save => s.acc = chain (padMessage m) s.blk ∧ s.x = bufWords (padMessage m) s.blk
    | .step =>
      s.saved = chain (padMessage m) s.blk ∧ s.x = bufWords (padMessage m) s.blk ∧ s.acc = opsUpTo s.x s.saved s.opidx.toNat
    | .feed =>
      s.saved = chain (padMessage m) s.blk ∧ s.x = bufWords (padMessage m) s.blk ∧ s.acc = opsUpTo s.x s.saved 64
    | .fmt => s.blk + 1 = blocks s.len ∧ s.acc = chain (padMessage m) (blocks s.len)
    | .idle | .done | .err => True

/-- R203: how many of the core's own steps are left until DONE. -/
def stepsLeft (s : State) : Nat :=
  let later := 67 * (blocks s.len - 1 - s.blk) + 1
  match s.phase with
  | .load => 67 + later
  | .save => 66 + later
  | .step => 65 - s.opidx.toNat + later
  | .feed => 1 + later
  | .fmt => 1
  | .idle | .done | .err => 0

/-- Every byte of the message has been written (R235). -/
def MessageWritten (s : State) : Prop := ∀ p, p < s.len → (Memory.read s.msg p).isSome = true

end Sys2Proof.Machine
end

