-- ==== Sys2Proof/Certificates/Slice0/Obligations.lean ====
section
/-! DEFINITION. The statements for the provers, from the spec's numbered rules. Each is about the model's meanings over every state
that meets its hypotheses. -/

namespace Sys2Proof.Claims

open Sys2Proof Sys2Proof.Machine

/-- One operation as its rule (R111 to R174) writes it: the instruction, its encoding and descriptor, its constant, and the
worked example: accumulators before, message word, round function's value, four-term sum, rotated sum, new value. -/
structure OpRow where
  instr : Instr
  opidx : BitVec 6
  fn : RoundFn
  k : Fin 16
  s : Nat
  t : Word
  dst : Fin 4
  before : Quad
  xk : Word
  fval : Word
  sum : Word
  rot : Word
  new : Word

/-- What a row says: the encoding; the next state of the operation in phase STEP at its own op, everything but the written
accumulator and the sequencer unchanged; and the worked example. -/
def OpRow.Holds (r : OpRow) : Prop :=
  encode r.instr = .sequencer .step r.opidx ∧
  (∀ st : State, st.phase = .step → st.opidx = r.opidx →
    exec r.instr st = .next
      { st with
        acc := st.acc.set r.dst
          (st.acc.get (r.dst + 1) +
            rotl32 (st.acc.get r.dst + applyFn r.fn (st.acc.get (r.dst + 1)) (st.acc.get (r.dst + 2)) (st.acc.get (r.dst + 3)) +
              st.x[r.k] + r.t) r.s)
        phase := if r.opidx = 63 then .feed else .step
        opidx := if r.opidx = 63 then 63 else r.opidx + 1 }) ∧
  applyFn r.fn (r.before.get (r.dst + 1)) (r.before.get (r.dst + 2)) (r.before.get (r.dst + 3)) = r.fval ∧
  r.before.get r.dst + r.fval + r.xk + r.t = r.sum ∧
  rotl32 r.sum r.s = r.rot ∧
  r.before.get (r.dst + 1) + r.rot = r.new

/-- R111 to R126: the sixteen operations of round 1, each as its own rule writes it. -/
def round1Rows : List OpRow :=
  [⟨.op1, 0, .f, 0, 7, 0xD76AA478, 0, ⟨0x67452301, 0xEFCDAB89, 0x98BADCFE, 0x10325476⟩, 0x34333231, 0x98BADCFE, 0x0B9DD6A8, 0xCEEB5405, 0xBEB8FF8E⟩,
   ⟨.op2, 1, .f, 1, 12, 0xE8C7B756, 3, ⟨0xBEB8FF8E, 0xEFCDAB89, 0x98BADCFE, 0x10325476⟩, 0x38373635, 0xAE8AABF8, 0xDFBBEDF9, 0xBEDF9DFB, 0x7D989D89⟩,
   ⟨.op3, 2, .f, 2, 17, 0x242070DB, 2, ⟨0xBEB8FF8E, 0xEFCDAB89, 0x98BADCFE, 0x7D989D89⟩, 0x32313039, 0xBEDDBF88, 0xADEA3D9A, 0x7B355BD4, 0xF8CDF95D⟩,
   ⟨.op4, 3, .f, 3, 22, 0xC1BDCEEE, 1, ⟨0xBEB8FF8E, 0xEFCDAB89, 0xF8CDF95D, 0x7D989D89⟩, 0x36353433, 0x7EB89F8B, 0x66794E35, 0x8D599E53, 0x862797B0⟩,
   ⟨.op5, 4, .f, 4, 7, 0xF57C0FAF, 0, ⟨0xBEB8FF8E, 0x862797B0, 0xF8CDF95D, 0x7D989D89⟩, 0x30393837, 0xF99D9919, 0xDE0BE08D, 0x05F046EF, 0x8C17DE9F⟩,
   ⟨.op6, 5, .f, 5, 12, 0x4787C62A, 3, ⟨0x8C17DE9F, 0x862797B0, 0xF8CDF95D, 0x7D989D89⟩, 0x34333231, 0xF4CFB7D0, 0xEE234DB4, 0x34DB4EE2, 0xC0F32D81⟩,
   ⟨.op7, 6, .f, 6, 17, 0xA8304613, 2, ⟨0x8C17DE9F, 0x862797B0, 0xF8CDF95D, 0xC0F32D81⟩, 0x38373635, 0x86179EB1, 0x5F4D1456, 0x28ACBE9A, 0xE99FEC1B⟩,
   ⟨.op8, 7, .f, 7, 22, 0xFD469501, 1, ⟨0x8C17DE9F, 0x862797B0, 0xE99FEC1B, 0xC0F32D81⟩, 0x32313039, 0xC4933E85, 0x7A329B6F, 0xDBDE8CA6, 0xC57E78C1⟩] ++
  [⟨.op9, 8, .f, 8, 7, 0x698098D8, 0, ⟨0x8C17DE9F, 0xC57E78C1, 0xE99FEC1B, 0xC0F32D81⟩, 0x36353433, 0xC19F6D01, 0xED6D18AB, 0xB68C55F6, 0x7C0ACEB7⟩,
   ⟨.op10, 9, .f, 9, 12, 0x8B44F7AF, 3, ⟨0x7C0ACEB7, 0xC57E78C1, 0xE99FEC1B, 0xC0F32D81⟩, 0x30393837, 0xC59F6889, 0x4210C5F0, 0x0C5F0421, 0x8869D2D8⟩,
   ⟨.op11, 10, .f, 10, 17, 0xFFFF5BB1, 2, ⟨0x7C0ACEB7, 0xC57E78C1, 0xE99FEC1B, 0x8869D2D8⟩, 0x34333231, 0x4D1EEA91, 0x6AF1648E, 0xC91CD5E2, 0x5186A8BA⟩,
   ⟨.op12, 11, .f, 11, 22, 0x895CD7BE, 1, ⟨0x7C0ACEB7, 0xC57E78C1, 0x5186A8BA, 0x8869D2D8⟩, 0x38373635, 0x2C08C69D, 0xB31B4D51, 0x546CC6D3, 0xA5F36F8D⟩,
   ⟨.op13, 12, .f, 12, 7, 0x6B901122, 0, ⟨0x7C0ACEB7, 0xA5F36F8D, 0x5186A8BA, 0x8869D2D8⟩, 0x32313039, 0x098AB8D8, 0x2356C8EA, 0xAB647511, 0x5157E49E⟩,
   ⟨.op14, 13, .f, 13, 12, 0xFD987193, 3, ⟨0x5157E49E, 0xA5F36F8D, 0x5186A8BA, 0x8869D2D8⟩, 0x36353433, 0x01D36CAC, 0xBE0AE54A, 0xAE54ABE0, 0xFFAC907E⟩,
   ⟨.op15, 14, .f, 14, 17, 0xA679438E, 2, ⟨0x5157E49E, 0xA5F36F8D, 0x5186A8BA, 0xFFAC907E⟩, 0x30393837, 0x5157EF9F, 0x7991141E, 0x283CF322, 0x27E983A0⟩,
   ⟨.op16, 15, .f, 15, 22, 0x49B40821, 1, ⟨0x5157E49E, 0xA5F36F8D, 0x27E983A0, 0xFFAC907E⟩, 0x34333231, 0x77BEE43E, 0x9B998E1D, 0x8766E663, 0xAF506A03⟩]

/-- R127 to R142: the sixteen operations of round 2, each as its own rule writes it. -/
def round2Rows : List OpRow :=
  [⟨.op17, 16, .g, 1, 5, 0xF61E2562, 0, ⟨0x5157E49E, 0xAF506A03, 0x27E983A0, 0xFFAC907E⟩, 0x38373635, 0xAF410382, 0x2EEE43B7, 0xDDC876E5, 0x8D18E0E8⟩,
   ⟨.op18, 17, .g, 6, 9, 0xC040B340, 3, ⟨0x8D18E0E8, 0xAF506A03, 0x27E983A0, 0xFFAC907E⟩, 0x38373635, 0x8D18E8A3, 0x853D6296, 0x7AC52D0A, 0x07DE0DF2⟩,
   ⟨.op19, 18, .g, 11, 14, 0x265E5A51, 2, ⟨0x8D18E0E8, 0xAF506A03, 0x27E983A0, 0x07DE0DF2⟩, 0x38373635, 0x075888EA, 0x8DD79D10, 0xE7442375, 0xEF223167⟩,
   ⟨.op20, 19, .g, 0, 20, 0xE9B6C7AA, 1, ⟨0x8D18E0E8, 0xAF506A03, 0xEF223167, 0x07DE0DF2⟩, 0x34333231, 0x8FC62D72, 0x5D009150, 0x1505D009, 0x04280170⟩,
   ⟨.op21, 20, .g, 5, 5, 0xD62F105D, 0, ⟨0x8D18E0E8, 0x04280170, 0xEF223167, 0x07DE0DF2⟩, 0x34333231, 0xEC283175, 0x83A354EB, 0x746A9D70, 0x78929EE0⟩,
   ⟨.op22, 21, .g, 10, 9, 0x02441453, 3, ⟨0x78929EE0, 0x04280170, 0xEF223167, 0x07DE0DF2⟩, 0x34333231, 0x680A1070, 0xA65F64E6, 0xBEC9CD4C, 0x375C6C2C⟩,
   ⟨.op23, 22, .g, 15, 14, 0xD8A1E681, 2, ⟨0x78929EE0, 0x04280170, 0xEF223167, 0x375C6C2C⟩, 0x34333231, 0x7C9A9EA0, 0x7891E8B9, 0x7A2E5E24, 0xB18ACA50⟩,
   ⟨.op24, 23, .g, 4, 20, 0xE7D3FBC8, 1, ⟨0x78929EE0, 0x04280170, 0xB18ACA50, 0x375C6C2C⟩, 0x30393837, 0x37CEEA4C, 0x54041FBB, 0xFBB54041, 0xAD400A91⟩] ++
  [⟨.op25, 24, .g, 9, 5, 0x21E1CDE6, 0, ⟨0x78929EE0, 0xAD400A91, 0xB18ACA50, 0x375C6C2C⟩, 0x30393837, 0xA5C28A50, 0x70702F4D, 0x0E05E9AE, 0xBB45F43F⟩,
   ⟨.op26, 25, .g, 14, 9, 0xC33707D6, 3, ⟨0xBB45F43F, 0xAD400A91, 0xB18ACA50, 0x375C6C2C⟩, 0x30393837, 0xBD40C091, 0xE80D6CCA, 0x1AD995D0, 0xD61F8A0F⟩,
   ⟨.op27, 26, .g, 3, 14, 0xF4D50D87, 2, ⟨0xBB45F43F, 0xAD400A91, 0xB18ACA50, 0xD61F8A0F⟩, 0x36353433, 0x9605FE2F, 0x729B0A39, 0xC28E5CA6, 0x98ADE6B5⟩,
   ⟨.op28, 27, .g, 8, 20, 0x455A14ED, 1, ⟨0xBB45F43F, 0xAD400A91, 0x98ADE6B5, 0xD61F8A0F⟩, 0x36353433, 0xDC1FEE35, 0x04EF41E6, 0x1E604EF4, 0xB70E35A9⟩,
   ⟨.op29, 28, .g, 13, 5, 0xA9E3E905, 0, ⟨0xBB45F43F, 0xB70E35A9, 0x98ADE6B5, 0xD61F8A0F⟩, 0x36353433, 0x9EAE64B9, 0x3A0D7630, 0x41AEC607, 0xF8BCFBB0⟩,
   ⟨.op30, 29, .g, 2, 9, 0xFCEFA3F8, 3, ⟨0xF8BCFBB0, 0xB70E35A9, 0x98ADE6B5, 0xD61F8A0F⟩, 0x32313039, 0xBFAEF3B8, 0xC4EF51F8, 0xDEA3F189, 0xD760ED39⟩,
   ⟨.op31, 30, .g, 7, 14, 0x676F02D9, 2, ⟨0xF8BCFBB0, 0xB70E35A9, 0x98ADE6B5, 0xD760ED39⟩, 0x32313039, 0xDFB0EF39, 0x11FF0900, 0xC240047F, 0x99A0F1B8⟩,
   ⟨.op32, 31, .g, 12, 20, 0x8D2A4C8A, 1, ⟨0xF8BCFBB0, 0xB70E35A9, 0x99A0F1B8, 0xD760ED39⟩, 0x32313039, 0x9FE0F5B9, 0x164AA825, 0x825164AA, 0x1BF25662⟩]

/-- R143 to R158: the sixteen operations of round 3, each as its own rule writes it. -/
def round3Rows : List OpRow :=
  [⟨.op33, 32, .h, 5, 4, 0xFFFA3942, 0, ⟨0xF8BCFBB0, 0x1BF25662, 0x99A0F1B8, 0xD760ED39⟩, 0x34333231, 0x55324AE3, 0x821CB206, 0x21CB2068, 0x3DBD76CA⟩,
   ⟨.op34, 33, .h, 8, 11, 0x8771F681, 3, ⟨0x3DBD76CA, 0x1BF25662, 0x99A0F1B8, 0xD760ED39⟩, 0x36353433, 0xBFEFD110, 0x54F7E8FD, 0xBF47EAA7, 0xFD056171⟩,
   ⟨.op35, 34, .h, 11, 16, 0x6D9D6122, 2, ⟨0x3DBD76CA, 0x1BF25662, 0x99A0F1B8, 0xFD056171⟩, 0x38373635, 0xDB4A41D9, 0x1ABFCAE8, 0xCAE81ABF, 0xC7ED7C30⟩,
   ⟨.op36, 35, .h, 14, 23, 0xFDE5380C, 1, ⟨0x3DBD76CA, 0x1BF25662, 0xC7ED7C30, 0xFD056171⟩, 0x30393837, 0x07556B8B, 0x51663230, 0x1828B319, 0xE0162F49⟩,
   ⟨.op37, 36, .h, 1, 4, 0xA4BEEA44, 0, ⟨0x3DBD76CA, 0xE0162F49, 0xC7ED7C30, 0xFD056171⟩, 0x38373635, 0xDAFE3208, 0xF5B1C94B, 0x5B1C94BF, 0x3B32C408⟩,
   ⟨.op38, 37, .h, 4, 11, 0x4BDECFA9, 3, ⟨0x3B32C408, 0xE0162F49, 0xC7ED7C30, 0xFD056171⟩, 0x30393837, 0x1CC99771, 0x95E700C2, 0x380614AF, 0x7338D8B7⟩,
   ⟨.op39, 38, .h, 7, 16, 0xF6BB4B60, 2, ⟨0x3B32C408, 0xE0162F49, 0xC7ED7C30, 0x7338D8B7⟩, 0x32313039, 0xA81C33F6, 0x98F62BBF, 0x2BBF98F6, 0x9EF871AD⟩,
   ⟨.op40, 39, .h, 10, 23, 0xBEBFBC70, 1, ⟨0x3B32C408, 0xE0162F49, 0x9EF871AD, 0x7338D8B7⟩, 0x34333231, 0xD6F26D12, 0xA9FB8AFC, 0x7E54FDC5, 0x1D4D6F72⟩] ++
  [⟨.op41, 40, .h, 13, 4, 0x289B7EC6, 0, ⟨0x3B32C408, 0x1D4D6F72, 0x9EF871AD, 0x7338D8B7⟩, 0x36353433, 0xF08DC668, 0x8A913D69, 0xA913D698, 0xC661460A⟩,
   ⟨.op42, 41, .h, 0, 11, 0xEAA127FA, 3, ⟨0xC661460A, 0x1D4D6F72, 0x9EF871AD, 0x7338D8B7⟩, 0x34333231, 0x45D458D5, 0xD7E18BB7, 0x0C5DBEBF, 0xD2BF04C9⟩,
   ⟨.op43, 42, .h, 3, 16, 0xD4EF3085, 2, ⟨0xC661460A, 0x1D4D6F72, 0x9EF871AD, 0xD2BF04C9⟩, 0x36353433, 0x09932DB1, 0xB3B00416, 0x0416B3B0, 0xD6D5B879⟩,
   ⟨.op44, 43, .h, 6, 23, 0x04881D05, 1, ⟨0xC661460A, 0x1D4D6F72, 0xD6D5B879, 0xD2BF04C9⟩, 0x38373635, 0xC20BFABA, 0x1C18BD66, 0xB30E0C5E, 0x89E3C4D7⟩,
   ⟨.op45, 44, .h, 9, 4, 0xD9D4D039, 0, ⟨0xC661460A, 0x89E3C4D7, 0xD6D5B879, 0xD2BF04C9⟩, 0x30393837, 0x8D897867, 0x5DF8C6E1, 0xDF8C6E15, 0x697032EC⟩,
   ⟨.op46, 45, .h, 12, 11, 0xE6DB99E5, 3, ⟨0x697032EC, 0x89E3C4D7, 0xD6D5B879, 0xD2BF04C9⟩, 0x32313039, 0x36464E42, 0x22121D29, 0x90E94910, 0xFA597BFC⟩,
   ⟨.op47, 46, .h, 15, 16, 0x1FA27CF8, 2, ⟨0x697032EC, 0x89E3C4D7, 0xD6D5B879, 0xFA597BFC⟩, 0x34333231, 0x1ACA8DC7, 0x4575F569, 0xF5694575, 0xEFC2C171⟩,
   ⟨.op48, 47, .h, 2, 23, 0xC4AC5665, 1, ⟨0x697032EC, 0x89E3C4D7, 0xEFC2C171, 0xFA597BFC⟩, 0x32313039, 0x7CEB8861, 0xFDACD3D6, 0xEB7ED669, 0xDB4197DA⟩]

/-- R159 to R174: the sixteen operations of round 4, each as its own rule writes it. -/
def round4Rows : List OpRow :=
  [⟨.op49, 48, .i, 0, 6, 0xF4292244, 0, ⟨0x697032EC, 0xDB4197DA, 0xEFC2C171, 0xFA597BFC⟩, 0x34333231, 0x302556AA, 0xC1F1DE0B, 0x7C7782F0, 0x57B91ACA⟩,
   ⟨.op50, 49, .i, 7, 10, 0x432AFF97, 3, ⟨0x57B91ACA, 0xDB4197DA, 0xEFC2C171, 0xFA597BFC⟩, 0x32313039, 0x8CFCA914, 0xFCB254E0, 0xC95383F2, 0x210C9EBC⟩,
   ⟨.op51, 50, .i, 14, 15, 0xAB9423A7, 2, ⟨0x57B91ACA, 0xDB4197DA, 0xEFC2C171, 0x210C9EBC⟩, 0x30393837, 0x7207E477, 0x3D9801C6, 0x00E31ECC, 0x21EFBD88⟩,
   ⟨.op52, 51, .i, 5, 21, 0xFC93A039, 1, ⟨0x57B91ACA, 0xDB4197DA, 0x21EFBD88, 0x210C9EBC⟩, 0x34333231, 0x88E36301, 0x94EBCD45, 0xA8B29D79, 0xCAA25B01⟩,
   ⟨.op53, 52, .i, 12, 6, 0x655B59C3, 0, ⟨0x57B91ACA, 0xCAA25B01, 0x21EFBD88, 0x210C9EBC⟩, 0x32313039, 0xFF1CC6CB, 0xEE626B91, 0x989AE47B, 0x633D3F7C⟩,
   ⟨.op54, 53, .i, 3, 10, 0x8F0CCC92, 3, ⟨0x633D3F7C, 0xCAA25B01, 0x21EFBD88, 0x210C9EBC⟩, 0x36353433, 0x359F247E, 0x1BEDC3FF, 0xB70FFC6F, 0x1A4D3BEB⟩,
   ⟨.op55, 54, .i, 10, 15, 0xFFEFF47D, 2, ⟨0x633D3F7C, 0xCAA25B01, 0x21EFBD88, 0x1A4D3BEB⟩, 0x34333231, 0x5C608083, 0xB27364B9, 0xB25CD939, 0xCCAA1524⟩,
   ⟨.op56, 55, .i, 1, 21, 0x85845DD1, 1, ⟨0x633D3F7C, 0xCAA25B01, 0xCCAA1524, 0x1A4D3BEB⟩, 0x38373635, 0xC6A7EE4C, 0x4F05DD53, 0xAA69E0BB, 0x7713F5DF⟩] ++
  [⟨.op57, 56, .i, 8, 6, 0x6FA87E4F, 0, ⟨0x633D3F7C, 0x7713F5DF, 0xCCAA1524, 0x1A4D3BEB⟩, 0x36353433, 0x3B19E0FB, 0x4434D2F9, 0x0D34BE51, 0x8448B430⟩,
   ⟨.op58, 57, .i, 15, 10, 0xFE2CE6E0, 3, ⟨0x8448B430, 0x7713F5DF, 0xCCAA1524, 0x1A4D3BEB⟩, 0x34333231, 0xC04E0B24, 0x0CFB6020, 0xED808033, 0x71C93463⟩,
   ⟨.op59, 58, .i, 6, 15, 0xA3014314, 2, ⟨0x8448B430, 0x7713F5DF, 0xCCAA1524, 0x71C93463⟩, 0x38373635, 0x7DA58A53, 0x258818C0, 0x0C6012C4, 0x7E294727⟩,
   ⟨.op60, 59, .i, 13, 21, 0x4E0811A1, 1, ⟨0x8448B430, 0x7713F5DF, 0x7E294727, 0x71C93463⟩, 0x36353433, 0x0E767B8C, 0x09C7B73F, 0xE7E138F6, 0x660A801D⟩,
   ⟨.op61, 60, .i, 4, 6, 0xF7537E82, 0, ⟨0x8448B430, 0x660A801D, 0x7E294727, 0x71C93463⟩, 0x30393837, 0x90178CBA, 0x3BECF7A3, 0xFB3DE8CE, 0x614868EB⟩,
   ⟨.op62, 61, .i, 11, 10, 0xBD3AF235, 3, ⟨0x614868EB, 0x660A801D, 0x7E294727, 0x71C93463⟩, 0x38373635, 0x87D478E6, 0xEF0FD5B3, 0x3F56CFBC, 0xA09F38A7⟩,
   ⟨.op63, 62, .i, 2, 15, 0x2AD7D2BB, 2, ⟨0x614868EB, 0x660A801D, 0x7E294727, 0xA09F38A7⟩, 0x32313039, 0xD8B7170C, 0xB3E96127, 0xB093D9F4, 0x5133129B⟩,
   ⟨.op64, 63, .i, 9, 21, 0xEB86D391, 1, ⟨0x614868EB, 0x660A801D, 0x5133129B, 0xA09F38A7⟩, 0x30393837, 0x7F28AF38, 0x00F33B1D, 0x63A01E67, 0xB4D33102⟩]

/-- The sequencer's operations that are not OP1 to OP64, with the phase each is enabled in (R193 to R197). -/
def seqPhase : List (Instr × Phase) := [(.load, .load), (.save, .save), (.feed, .feed), (.fmt, .fmt)]

/-- The instructions that return a value and write nothing else (R199, R201, R80, R90, R95). -/
def returnsOnly (i : Instr) : Prop :=
  i = .rdStatus ∨ i = .rdErrcode ∨ i = .rdLen ∨ (∃ m, i = .rdDigest m) ∨ (∃ q, i = .rdHex q) ∨ i = .pad ∨
  (∃ x y z, i = .fnF x y z) ∨ (∃ x y z, i = .fnG x y z) ∨ (∃ x y z, i = .fnH x y z) ∨ (∃ x y z, i = .fnI x y z) ∨ (∃ n, i = .trom n)

/-- RESET is the host's next move: the reset input, or a CTRL write with bit 1 set, by register number or on the bus (R68, R230). -/
def resetPending (s : State) : Prop :=
  ∃ rest, s.host = .resetInput :: rest ∨ ∃ w : Nat, w.testBit 1 = true ∧ s.issues (.write 0 w) rest

/-- START is the host's next move: a CTRL write with bit 1 clear and bit 0 set, by register number or on the bus (R68, R192). -/
def startPending (s : State) : Prop :=
  ∃ (rest : List HostMove) (w : Nat), w.testBit 1 = false ∧ w.testBit 0 = true ∧ s.issues (.write 0 w) rest

end Sys2Proof.Claims

open Sys2Proof Sys2Proof.Machine Sys2Proof.Claims

/-! ### Encoding -/

/-- R65, R67, R68: every well-formed instruction is decoded from its code, and a code that decodes to an instruction is that
instruction's code but for what the rules leave free: bits of a CTRL write above the deciding one, the reset input, and the
opidx in a phase that does not read it. -/
def Obligations.DecodeAndEncodeAgree : Prop :=
  (∀ i : Instr, i.wellFormed = true → decode (encode i) = .op i) ∧
  (∀ (c : Code) (i : Instr), decode c = .op i → i.wellFormed = true ∧
    (c = encode i ∨
     (i = .reset ∧ (c = .resetInput ∨ ∃ w : Nat, w.testBit 1 = true ∧ c = .access (.write 0 w))) ∨
     (i = .start ∧ ∃ w : Nat, w.testBit 1 = false ∧ w.testBit 0 = true ∧ c = .access (.write 0 w)) ∨
     (∃ p j, p ≠ .step ∧ c = .sequencer p j ∧ encode i = .sequencer p 0)))

/-- R68, whole. -/
def Obligations.HostCommandEncoding : Prop :=
  (∀ w : Nat, decode (.access (.write 0 w)) =
    if w.testBit 1 = true then .op .reset else if w.testBit 0 = true then .op .start else .ctrlNone) ∧
  (∀ w v : Nat, w % 4 = v % 4 → decode (.access (.write 0 w)) = decode (.access (.write 0 v))) ∧
  decode (.access (.read 1 0)) = .op .rdStatus ∧ decode (.access (.read 2 0)) = .op .rdErrcode ∧
  decode (.access (.read 3 0)) = .op .rdLen ∧ (∀ v, decode (.access (.write 3 v)) = .op (.wrLen v)) ∧
  (∀ m, m < 16 → decode (.access (.read 4 m)) = .op (.rdDigest m)) ∧
  (∀ q, q < 32 → decode (.access (.read 5 q)) = .op (.rdHex q)) ∧
  (∀ p b, decode (.access (.writeMsg p b)) = .op (.wrMsg p b))

/-- R65, whole: opidx = i - 1, its two fields, and the operation each value selects. -/
def Obligations.OpIndexFields : Prop :=
  ∀ idx : BitVec 6,
    (∀ s : State, s.opidx = idx → s.op = idx.toNat + 1 ∧ 1 ≤ s.op ∧ s.op ≤ 64) ∧
    roundOf idx = (idx.extractLsb' 4 2).toNat ∧ positionOf idx = (idx.extractLsb' 0 4).toNat ∧
    [RoundFn.f, .g, .h, .i][(idx.extractLsb' 4 2).toNat]? = some (descrOf idx).fn ∧
    idx.toNat + 1 = 16 * roundOf idx + positionOf idx + 1 ∧
    decode (.sequencer .step idx) = .op (decodeOpidx idx) ∧ encode (decodeOpidx idx) = .sequencer .step idx

/-- R67, R68: a few codes, written out. -/
def Obligations.SomeCodesDecode : Prop :=
  decode (.sequencer .step 0b000000) = .op .op1 ∧ decode (.sequencer .step 0b010010) = .op .op19 ∧
  decode (.sequencer .step 0b111111) = .op .op64 ∧ decode (.access (.write 0 0b01)) = .op .start ∧
  decode (.access (.write 0 0b11)) = .op .reset ∧ decode (.access (.write 0 0b100)) = .ctrlNone ∧
  decode (.access (.read 0 0)) = .ctrlRead ∧ decode (.sequencer .feed 63) = .op .feed ∧
  decode (.func 0b10 1 2 3) = .op (.fnH 1 2 3) ∧ decode (.rom 64) = .op (.trom 64)

/-- R69, 93 U6: an access that addresses nothing or goes the wrong way is refused, whatever the state. That a cell which does not
exist gets this refusal outside DONE too is the order of the model's tests (log 21). The two accesses of CTRL
that are no operation do nothing, and the read returns 0 (R29, R68), in the model's field out (log 9). -/
def Obligations.AccessesThatSelectNothing : Prop :=
  ∀ (s : State) (rest : List HostMove) (r v : Nat),
    (5 < r → s.issues (.write r v) rest → step s = .refused (.rejected (.noSuchRegister r))) ∧
    (5 < r → s.issues (.read r v) rest → step s = .refused (.rejected (.noSuchRegister r))) ∧
    (r ∈ [1, 2, 4, 5] → s.issues (.write r v) rest → step s = .refused (.rejected (.readOnlyRegister r))) ∧
    (16 ≤ v → s.issues (.read 4 v) rest → step s = .refused (.rejected (.noSuchCell 4 v))) ∧
    (32 ≤ v → s.issues (.read 5 v) rest → step s = .refused (.rejected (.noSuchCell 5 v))) ∧
    (v % 4 = 0 → s.issues (.write 0 v) rest → step s = .next { s with host := rest }) ∧
    (s.issues (.read 0 0) rest → step s = .next { s with host := rest, out := some (.ctrl 0) })

/-! ### Primitives, round functions, constants -/

/-- R9, R10, R184: add32, NOT, rotl32 by its formula and bit by bit, le32, byte_j, bswap32 and hexdigit by theirs; the character
codes are ASCII, the spec's decision D20 (log 14). -/
def Obligations.PrimitivesFollowTheirFormulas : Prop :=
  (∀ v w : Word, (v + w).toNat = (v.toNat + w.toNat) % 2 ^ 32 ∧ (~~~v).toNat = 2 ^ 32 - 1 - v.toNat ∧ ~~~v = v ^^^ 0xFFFFFFFF) ∧
  (∀ (v : Word) (s : Nat), 0 < s → s < 32 →
    (rotl32 v s).toNat = (v.toNat * 2 ^ s) % 2 ^ 32 + v.toNat / 2 ^ (32 - s) ∧
    ∀ n, n < 32 → (rotl32 v s).getLsbD ((n + s) % 32) = v.getLsbD n) ∧
  (∀ b0 b1 b2 b3 : Byte,
    (le32 b0 b1 b2 b3).toNat = b0.toNat + 2 ^ 8 * b1.toNat + 2 ^ 16 * b2.toNat + 2 ^ 24 * b3.toNat ∧
    bswap32 (le32 b0 b1 b2 b3) = le32 b3 b2 b1 b0) ∧
  (∀ w : Word, bswap32 w = le32 (byteOf w 3) (byteOf w 2) (byteOf w 1) (byteOf w 0)) ∧
  (∀ (w : Word) (j : Nat), (byteOf w j).toNat = (w.toNat >>> (8 * j)) % 256) ∧
  (∀ (v : BitVec 64) (j : Nat), j < 8 → (le64bytes v)[j]? = some (BitVec.ofNat 8 ((v.toNat >>> (8 * j)) % 256))) ∧
  (∀ n : BitVec 4, (hexDigit n).toNat = if n.toNat < 10 then 0x30 + n.toNat else 0x57 + n.toNat)

/-- R91, whole: F. That the row runs in every phase (log 11) and returns the word in the field out (log 9) is the model's choice. -/
def Obligations.RoundFunctionF : Prop :=
  (∀ (x y z : Word) (s : State),
    exec (.fnF x y z) s = .next { s with out := some (.word ((x &&& y) ||| (~~~x &&& z))) } ∧
    roundF x y z = (x &&& y) ||| (~~~x &&& z) ∧
    (∀ n, n < 32 → (roundF x y z).getLsbD n = if x.getLsbD n = true then y.getLsbD n else z.getLsbD n) ∧
    (x &&& y) &&& (~~~x &&& z) = 0 ∧ roundF x y z = (x &&& y) ^^^ (~~~x &&& z) ∧ roundF x y z = (x &&& y) + (~~~x &&& z) ∧
    roundF 0 y z = z ∧ roundF 0xFFFFFFFF y z = y ∧ roundF x y y = y) ∧
  (∀ i : BitVec 6, i.toNat < 16 → (descrOf i).fn = .f) ∧
  roundF 0xEFCDAB89 0x98BADCFE 0x10325476 = 0x98BADCFE ∧ roundF 0x0F0F0F0F 0x33333333 0x55555555 = 0x53535353

/-- R92, whole: G. That the row runs in every phase (log 11) and returns the word in the field out (log 9) is the model's choice. -/
def Obligations.RoundFunctionG : Prop :=
  (∀ (x y z : Word) (s : State),
    exec (.fnG x y z) s = .next { s with out := some (.word ((x &&& z) ||| (y &&& ~~~z))) } ∧
    roundG x y z = (x &&& z) ||| (y &&& ~~~z) ∧
    (∀ n, n < 32 → (roundG x y z).getLsbD n = if z.getLsbD n = true then x.getLsbD n else y.getLsbD n) ∧
    roundG x y z = roundF z x y ∧
    roundG x y 0 = y ∧ roundG x y 0xFFFFFFFF = x ∧ roundG x x z = x) ∧
  (∀ i : BitVec 6, 16 ≤ i.toNat → i.toNat < 32 → (descrOf i).fn = .g) ∧
  roundG 0xEFCDAB89 0x98BADCFE 0x10325476 = 0x88888888 ∧ roundG 0x0F0F0F0F 0x33333333 0x55555555 = 0x27272727

/-- R93, whole: H. That the row runs in every phase (log 11) and returns the word in the field out (log 9) is the model's choice. -/
def Obligations.RoundFunctionH : Prop :=
  (∀ (x y z : Word) (s : State),
    exec (.fnH x y z) s = .next { s with out := some (.word (x ^^^ y ^^^ z)) } ∧
    roundH x y z = x ^^^ y ^^^ z ∧
    (∀ n, n < 32 → (roundH x y z).getLsbD n = (x.getLsbD n ^^ y.getLsbD n ^^ z.getLsbD n)) ∧
    roundH x y z = roundH y x z ∧ roundH x y z = roundH x z y ∧ x ^^^ y ^^^ z = x ^^^ (y ^^^ z) ∧
    roundH x x z = z ∧ roundH x y 0 = x ^^^ y ∧ roundH x x x = x) ∧
  (∀ i : BitVec 6, 32 ≤ i.toNat → i.toNat < 48 → (descrOf i).fn = .h) ∧
  roundH 0xEFCDAB89 0x98BADCFE 0x10325476 = 0x67452301 ∧ roundH 0x0F0F0F0F 0x33333333 0x55555555 = 0x69696969

/-- R94, whole: I. That the row runs in every phase (log 11) and returns the word in the field out (log 9) is the model's choice. -/
def Obligations.RoundFunctionI : Prop :=
  (∀ (x y z : Word) (s : State),
    exec (.fnI x y z) s = .next { s with out := some (.word (y ^^^ (x ||| ~~~z))) } ∧
    roundI x y z = y ^^^ (x ||| ~~~z) ∧
    (∀ n, n < 32 → (roundI x y z).getLsbD n = if x.getLsbD n = false ∧ z.getLsbD n = true then y.getLsbD n else !(y.getLsbD n)) ∧
    roundI x y 0 = ~~~y ∧ roundI 0xFFFFFFFF y z = ~~~y ∧ roundI 0 y 0xFFFFFFFF = y ∧ roundI x x x = ~~~x) ∧
  (∀ i : BitVec 6, 48 ≤ i.toNat → (descrOf i).fn = .i) ∧
  roundI 0 0 0 = 0xFFFFFFFF ∧
  roundI 0xEFCDAB89 0x98BADCFE 0x10325476 = 0x77777777 ∧ roundI 0x0F0F0F0F 0x33333333 0x55555555 = 0x9C9C9C9C ∧
  roundI 0x12345678 0x12345678 0x12345678 = 0xEDCBA987

/-- R95, 93 U8: TROM returns T[i] = floor(2^32 × |sin(i)|) for 1 ≤ i ≤ 64, i an angle in radians, the word operation OPi adds; there
is no other entry, so the row is refused there (U8). That the row runs in every phase (log 11) and returns the word in the field out
(log 9) is the model's choice. -/
def Obligations.TromFollowsTheSine : Prop :=
  (∀ (s : State) (idx : BitVec 6),
    exec (.trom (idx.toNat + 1)) s = .next { s with out := some (.word (romAt idx)) } ∧ trom? (idx.toNat + 1) = some (romAt idx) ∧
    (romAt idx).toNat = ⌊2 ^ 32 * |Real.sin ((idx.toNat + 1 : ℕ) : ℝ)|⌋₊) ∧
  (∀ (s : State) (i : Nat), i = 0 ∨ 64 < i → trom? i = none ∧ exec (.trom i) s = .refused .noSuchConstant) ∧
  romAt 0 = 0xD76AA478

/-- R96, 95 section 3.4: the whole-table checks, no two entries equal, the least and the greatest entries T[22] and T[11]; the spec
marks them as its own computation. -/
def Obligations.ConstantRom : Prop :=
  (rom.map BitVec.toNat).sum % 2 ^ 32 = 0x27F3A0BC ∧ rom.foldl (· ^^^ ·) 0 = 0x10E6CC5A ∧ rom.Nodup ∧ rom.length = 64 ∧
  romAt 21 = 0x02441453 ∧ romAt 10 = 0xFFFF5BB1 ∧
  (∀ i : BitVec 6, (romAt 21).toNat ≤ (romAt i).toNat ∧ (romAt i).toNat ≤ (romAt 10).toNat)

/-! ### The 64 operations -/

/-- R104, R66, R106, R195: the form of every operation, with the operands R66 assembles from the opidx, the direction of the roles
(decision D7, log 14) and the sequencer's advance (decision D9). -/
def Obligations.EveryOperationHasTheForm : Prop :=
  ∀ (idx : BitVec 6) (st : State), st.phase = .step → st.opidx = idx →
    exec (decodeOpidx idx) st = .next
      { st with
        acc := st.acc.set (descrOf idx).dst
          (st.acc.get ((descrOf idx).dst + 1) +
            rotl32 (st.acc.get (descrOf idx).dst +
              applyFn (descrOf idx).fn (st.acc.get ((descrOf idx).dst + 1)) (st.acc.get ((descrOf idx).dst + 2))
                (st.acc.get ((descrOf idx).dst + 3)) +
              st.x[(descrOf idx).k] + romAt idx) (descrOf idx).s)
        phase := if idx.toNat < 63 then .step else .feed
        opidx := if idx.toNat < 63 then idx + 1 else idx }

/-- R66: the fields by round and position, against the source's lists and the rule's closed forms; dst by its formula (the direction
is the spec's decision D7, log 14); every amount between 0 and 32. -/
def Obligations.OperandAssembly : Prop :=
  (∀ (r j : Nat) (idx : BitVec 6), r < 4 → j < 16 → idx.toNat = 16 * r + j →
    (descrOf idx).opidx = idx ∧
    [RoundFn.f, .g, .h, .i][r]? = some (descrOf idx).fn ∧
    ([[0, 1, 2, 3, 4, 5, 6, 7, 8, 9, 10, 11, 12, 13, 14, 15], [1, 6, 11, 0, 5, 10, 15, 4, 9, 14, 3, 8, 13, 2, 7, 12],
      [5, 8, 11, 14, 1, 4, 7, 10, 13, 0, 3, 6, 9, 12, 15, 2], [0, 7, 14, 5, 12, 3, 10, 1, 8, 15, 6, 13, 4, 11, 2, 9]] : List (List (Fin 16)))[r]?.bind
        (·[j]?) = some (descrOf idx).k ∧
    [[7, 12, 17, 22], [5, 9, 14, 20], [4, 11, 16, 23], [6, 10, 15, 21]][r]?.bind (·[j % 4]?) = some (descrOf idx).s ∧
    [j, (1 + 5 * j) % 16, (5 + 3 * j) % 16, 7 * j % 16][r]? = some (descrOf idx).k.val ∧
    ([0, 3, 2, 1] : List (Fin 4))[j % 4]? = some (descrOf idx).dst ∧ (descrOf idx).dst.val = (4 - j % 4) % 4 ∧
    trom? (16 * r + j + 1) = some (romAt idx)) ∧
  (∀ idx : BitVec 6, 0 < (descrOf idx).s ∧ (descrOf idx).s < 32)

/-- R111 to R126. -/
def Obligations.RoundOneOperations : Prop := ∀ r ∈ round1Rows, r.Holds

/-- R127 to R142. -/
def Obligations.RoundTwoOperations : Prop := ∀ r ∈ round2Rows, r.Holds

/-- R143 to R158. -/
def Obligations.RoundThreeOperations : Prop := ∀ r ∈ round3Rows, r.Holds

/-- R159 to R174. -/
def Obligations.RoundFourOperations : Prop := ∀ r ∈ round4Rows, r.Holds

/-- R107 (f): an operation is a bijection on the accumulator it writes, the others fixed; the old value by the rule's formula. -/
def Obligations.OperationIsInvertible : Prop :=
  ∀ (idx : BitVec 6) (x : Vector Word 16) (q : Quad),
    let d := descrOf idx
    let new := (operate d x q).get d.dst
    q.get d.dst =
      (new - q.get (d.dst + 1)).rotateRight d.s - applyFn d.fn (q.get (d.dst + 1)) (q.get (d.dst + 2)) (q.get (d.dst + 3)) -
        x[d.k] - romAt idx ∧
    (∀ w : Word, ∃ v : Word, (operate d x (q.set d.dst v)).get d.dst = w)

/-- R109: the shifting-register form holds the same four values after every fourth operation, so after 64. -/
def Obligations.ShiftingRegisterForm : Prop :=
  ∀ (x : Vector Word 16) (q : Quad) (n : Nat), n ≤ 16 → shiftOpsUpTo x q (4 * n) = opsUpTo x q (4 * n)

/-! ### The preprocessor -/

/-- R80, R81: PAD returns the padded buffer of MSG[0..LEN): the message, the byte 0x80, Z = (55 - L) mod 64 zero bytes (R81, which the
spec marks as derived), and the length field little-endian in the last 8 bytes; nothing else changes. That the row runs in every
phase (log 11) and returns the buffer in the field out (log 9) is the model's choice. -/
def Obligations.PadBuildsTheBuffer : Prop :=
  ∀ (s : State) (m : List Byte), Memory.readBytes s.msg 0 s.len = some m →
    exec .pad s = .next { s with out := some (.buffer (padMessage m)) } ∧
    m.length = s.len ∧ (∀ p, p < s.len → m[p]? = Memory.read s.msg p) ∧
    padMessage m =
      m ++ [0x80] ++ List.replicate ((55 + 64 - m.length % 64) % 64) 0x00 ++ le64bytes (BitVec.ofNat 64 (8 * m.length)) ∧
    padMessage [0x61, 0x62, 0x63] = [0x61, 0x62, 0x63, 0x80] ++ List.replicate 52 0x00 ++ [0x18, 0, 0, 0, 0, 0, 0, 0]

/-- R84, R87: the byte function gives, at every address below 64N, the byte of the buffer that R80's loop builds, and no address at
or above 64N exists. -/
def Obligations.PaddedBufferAsByteFunction : Prop :=
  ∀ (mem : Memory) (l : Nat) (m : List Byte), Memory.readBytes mem 0 l = some m →
    (padMessage m).length = 64 * blocks l ∧ ∀ p, pbByte mem l p = (padMessage m)[p]?

/-- R81, R82: the block count. -/
def Obligations.BlockCount : Prop :=
  ∀ l : Nat,
    64 * blocks l = l + 9 + (55 + 64 - l % 64) % 64 ∧ 0 < blocks l ∧ l < 64 * blocks l - 8 ∧
    9 ≤ 64 * blocks l - l ∧ 64 * blocks l - l ≤ 72 ∧
    (l % 64 ≤ 55 → blocks l = l / 64 + 1) ∧ (56 ≤ l % 64 → blocks l = l / 64 + 2)

/-- R83, R84, R88: the length field is 8L modulo 2^64, byte j of it at 64N - 8 + j; it wraps at L = 2^61. The wrap, and the byte
function that gives the byte, are what the spec marks as derived. -/
def Obligations.LengthField : Prop :=
  (∀ l : Nat, (lengthField l).toNat = (8 * l) % 2 ^ 64 ∧ lengthField (l + 2 ^ 61) = lengthField l) ∧
  (∀ (mem : Memory) (l j : Nat), j < 8 →
    pbByte mem l (64 * blocks l - 8 + j) = some (BitVec.ofNat 8 (((8 * l) % 2 ^ 64) >>> (8 * j) % 256))) ∧
  lengthField (2 ^ 61) = 0 ∧ lengthField 1 = 8 ∧ lengthField 3 = 24

/-! ### The compression engine -/

/-- R100: INIT loads IV and changes nothing else. The four values are the spec's decision D6 (log 14);
that the row runs by itself, in every phase, is the model's choice (log 11). -/
def Obligations.InitLoadsIv : Prop :=
  ∀ s : State, exec .init s = .next { s with acc := ⟨0x67452301, 0xEFCDAB89, 0x98BADCFE, 0x10325476⟩ }

/-- R102, R40, R193: LOAD of a block whose message bytes all have a value writes all sixteen words, each from its four bytes, the
lowest address least significant, and goes to SAVE; nothing else changes. -/
def Obligations.LoadDecodesTheBlock : Prop :=
  ∀ s : State, s.phase = .load → s.blk < blocks s.len →
    (∀ p, 64 * s.blk ≤ p → p < 64 * s.blk + 64 → p < s.len → (Memory.read s.msg p).isSome = true) →
    ∃ x : Vector Word 16,
      exec .load s = .next { s with x := x, phase := .save } ∧
      ∀ k : Fin 16, ∃ b0 b1 b2 b3 : Byte,
        pbByte s.msg s.len (64 * s.blk + 4 * k.val) = some b0 ∧ pbByte s.msg s.len (64 * s.blk + 4 * k.val + 1) = some b1 ∧
        pbByte s.msg s.len (64 * s.blk + 4 * k.val + 2) = some b2 ∧ pbByte s.msg s.len (64 * s.blk + 4 * k.val + 3) = some b3 ∧
        (x[k]).toNat = b0.toNat + 2 ^ 8 * b1.toNat + 2 ^ 16 * b2.toNat + 2 ^ 24 * b3.toNat

/-- R235, 93 U9: LOAD of a block with a message byte that nothing has written is refused. -/
def Obligations.LoadRefusesUnwrittenByte : Prop :=
  ∀ (s : State) (p : Nat), s.phase = .load → s.blk < blocks s.len → 64 * s.blk ≤ p → p < 64 * s.blk + 64 → p < s.len →
    Memory.read s.msg p = none → exec .load s = .refused .unwrittenMsgByte

/-- R41: in the last block X[14] and X[15] are the low and high halves of (8L) mod 2^64. -/
def Obligations.LastBlockHoldsTheLength : Prop :=
  ∀ s t : State, s.phase = .load → s.blk + 1 = blocks s.len → exec .load s = .next t →
    (t.x[14]).toNat = (8 * s.len) % 2 ^ 64 % 2 ^ 32 ∧ (t.x[15]).toNat = (8 * s.len) % 2 ^ 64 / 2 ^ 32

/-- R103, R194: SAVE. -/
def Obligations.SaveCopiesTheAccumulators : Prop :=
  ∀ s : State, s.phase = .save → exec .save s = .next { s with saved := s.acc, phase := .step, opidx := 0 }

/-- R175, R196: FEED, with the rule's worked example. -/
def Obligations.FeedAddsTheSavedCopies : Prop :=
  (∀ s : State, s.phase = .feed →
    exec .feed s = .next
      { s with
        acc := ⟨s.acc.a + s.saved.a, s.acc.b + s.saved.b, s.acc.c + s.saved.c, s.acc.d + s.saved.d⟩
        blk := if s.blk + 1 < blocks s.len then s.blk + 1 else s.blk
        phase := if s.blk + 1 < blocks s.len then .load else .fmt }) ∧
  Quad.add ⟨0x614868EB, 0xB4D33102, 0x5133129B, 0xA09F38A7⟩ ⟨0x67452301, 0xEFCDAB89, 0x98BADCFE, 0x10325476⟩ =
    ⟨0xC88D8BEC, 0xA4A0DC8B, 0xE9EDEF99, 0xB0D18D1D⟩

/-- R180, R181, R182, R197: FMT writes the digest bytes and the characters, and goes to DONE; the accumulators are not changed. The
order of the bytes is the spec's inference in R181, the character codes its decision D20 (log 14). -/
def Obligations.FmtWritesTheOutputs : Prop :=
  ∀ s : State, s.phase = .fmt → ∃ (d : Vector Byte 16) (h : Vector Byte 32),
    exec .fmt s = .next { s with digest := some d, hex := some h, phase := .done } ∧
    (∀ n j : Nat, (hn : n < 4) → (hj : j < 4) →
      (d[4 * n + j]'(by omega)).toNat = ((s.acc.get ⟨n, hn⟩).toNat >>> (8 * j)) % 256) ∧
    (∀ n q : Nat, (hn : n < 4) → (hq : q < 8) →
      h[8 * n + q]'(by omega) = hexDigit (BitVec.ofNat 4 (((bswap32 (s.acc.get ⟨n, hn⟩)).toNat >>> (28 - 4 * q)) % 16)))

/-- R182, R186: the characters and the bytes are one value: HEX[2m] and HEX[2m+1] are the two digits of DIGEST[m], and either output
determines the other. -/
def Obligations.HexAgreesWithDigest : Prop :=
  (∀ (q : Quad) (m : Nat) (hm : m < 16),
    (hexString q)[2 * m]'(by omega) = hexDigit ((serialize q)[m].extractLsb' 4 4) ∧
    (hexString q)[2 * m + 1]'(by omega) = hexDigit ((serialize q)[m].extractLsb' 0 4)) ∧
  (∀ q r : Quad, hexString q = hexString r ↔ serialize q = serialize r) ∧ (∀ q r : Quad, serialize q = serialize r ↔ q = r)

/-- R183, R184: HEX holds only the ASCII codes of 0 to 9 and a to f. -/
def Obligations.HexIsLowercase : Prop :=
  ∀ (q : Quad) (i : Nat) (hi : i < 32),
    let c := ((hexString q)[i]).toNat
    (0x30 ≤ c ∧ c ≤ 0x39) ∨ (0x61 ≤ c ∧ c ≤ 0x66)

/-- R12: an operation of the sequencer has no step outside its phase, nor OPi at another op. -/
def Obligations.NotEnabledHasNoStep : Prop :=
  (∀ c ∈ seqPhase, ∀ s : State, s.phase ≠ c.2 → exec c.1 s = .refused .notEnabled) ∧
  (∀ (idx : BitVec 6) (s : State), s.phase ≠ .step ∨ s.opidx ≠ idx → exec (decodeOpidx idx) s = .refused .notEnabled)

/-! ### The host commands -/

/-- R192: START in IDLE, DONE or ERR with LEN ≤ MSG_CAP. -/
def Obligations.StartAccepted : Prop :=
  ∀ s : State, s.phase = .idle ∨ s.phase = .done ∨ s.phase = .err → fits s.cfg s.len = true →
    exec .start s = .next
      { s with
        errcode := .none, digest := none, hex := none, acc := ⟨0x67452301, 0xEFCDAB89, 0x98BADCFE, 0x10325476⟩
        phase := .load, blk := 0, opidx := 0 }

/-- R213, R212: START with LEN > MSG_CAP takes CapacityFault, precisely; the next state has STATUS.ERR alone, and the same START
gives the same fault again (R216). -/
def Obligations.StartTakesCapacityFault : Prop :=
  ∀ (s : State) (cap : Nat), s.phase = .idle ∨ s.phase = .done ∨ s.phase = .err → s.cfg.msgCap = some cap → cap < s.len →
    ∃ t : State, exec .start s = .next t ∧ t = { s with errcode := .capacity, phase := .err, digest := none, hex := none } ∧
      status t.phase = 0b100 ∧ exec .start t = .next t

/-- R202, U5: START while BUSY is refused. -/
def Obligations.StartWhileBusyRefused : Prop :=
  ∀ s : State, busy s.phase = true → exec .start s = .refused .startWhileBusy

/-- R230, R231: RESET in every phase. What the spec leaves unspecified (A..D, AA..DD, X) is left unsaid. -/
def Obligations.ResetEffect : Prop :=
  ∀ s : State, ∃ t : State, exec .reset s = .next t ∧
    t.phase = .idle ∧ t.blk = 0 ∧ t.op = 1 ∧ t.errcode = .none ∧ t.len = 0 ∧ t.digest = none ∧ t.hex = none ∧
    t.msg = s.msg ∧ t.cfg = s.cfg ∧ t.host = s.host ∧ t.out = s.out ∧ status t.phase = 0

/-- R38: the values the spec gives after reset. -/
def Obligations.ResetState : Prop :=
  State.reset.phase = .idle ∧ State.reset.blk = 0 ∧ State.reset.op = 1 ∧ status State.reset.phase = 0 ∧
  State.reset.errcode = .none ∧ State.reset.len = 0 ∧ State.reset.digest = none ∧ State.reset.hex = none

/-- R199, R28, R29: the three register reads, in every phase. The value is returned in the model's field out (log 9). -/
def Obligations.RegisterReads : Prop :=
  ∀ s : State,
    exec .rdStatus s = .next
      { s with
        out := some (.status
          (match s.phase with
           | .idle => 0b000
           | .load | .save | .step | .feed | .fmt => 0b001
           | .done => 0b010
           | .err => 0b100)) } ∧
    exec .rdErrcode s = .next { s with out := some (.errcode (if s.errcode = .capacity then 1 else 0)) } ∧
    exec .rdLen s = .next { s with out := some (.len s.len) }

/-- R200, U3, U6: WR_LEN and WR_MSG. While BUSY a WR_MSG at p ≥ MSG_CAP gets the refusal for BUSY: that this test comes first is the
model's choice (log 21). -/
def Obligations.HostWrites : Prop :=
  ∀ s : State,
    (∀ v : Nat, s.phase = .idle ∨ s.phase = .done ∨ s.phase = .err → exec (.wrLen v) s = .next { s with len := v }) ∧
    (∀ (p : Nat) (b : Byte), s.phase = .idle ∨ s.phase = .done ∨ s.phase = .err → hasAddress s.cfg p = true →
      ∃ m : Memory, exec (.wrMsg p b) s = .next { s with msg := m } ∧ Memory.read m p = some b ∧
        ∀ a, a ≠ p → Memory.read m a = Memory.read s.msg a) ∧
    (busy s.phase = true → (∀ v, exec (.wrLen v) s = .refused .writeWhileBusy) ∧
      ∀ p b, exec (.wrMsg p b) s = .refused .writeWhileBusy) ∧
    (∀ (p cap : Nat) (b : Byte), busy s.phase = false → s.cfg.msgCap = some cap → cap ≤ p →
      exec (.wrMsg p b) s = .refused .beyondCapacity)

/-- R201: RD_DIGEST and RD_HEX in DONE return the cell, in the model's field out (log 9), and change nothing else. -/
def Obligations.OutputReads : Prop :=
  ∀ (s : State) (d : Vector Byte 16) (h : Vector Byte 32), s.phase = .done → s.digest = some d → s.hex = some h →
    (∀ (m : Nat) (hm : m < 16), exec (.rdDigest m) s = .next { s with out := some (.digest d[m]) }) ∧
    (∀ (q : Nat) (hq : q < 32), exec (.rdHex q) s = .next { s with out := some (.hex h[q]) }) ∧
    (∀ m, 16 ≤ m → exec (.rdDigest m) s = .refused .noSuchCell) ∧ (∀ q, 32 ≤ q → exec (.rdHex q) s = .refused .noSuchCell)

/-- R201, R237, U4: outside DONE a read of the outputs is refused, never answered. That a cell which does not exist gets the same
refusal in exec, DONE being tested first, is the model's choice (log 21). -/
def Obligations.OutputReadsRefusedOutsideDone : Prop :=
  ∀ (s : State) (i : Nat), s.phase ≠ .done →
    exec (.rdDigest i) s = .refused .outputNotValid ∧ exec (.rdHex i) s = .refused .outputNotValid

/-! ### The step -/

/-- R190, R208: a step runs the decoded instruction: the host's pending access, by register number or on the bus, or the reset
input, whatever the core is doing, with the move used up; else, while BUSY, the operation the phase and opidx select, at the state itself or with a wait used up. -/
def Obligations.StepRunsTheDecodedInstruction : Prop :=
  ∀ (s : State) (i : Instr) (rest : List HostMove),
    (∀ a : Access, s.issues a rest → decode (.access a) = .op i → step s = exec i { s with host := rest }) ∧
    (s.host = .resetInput :: rest → step s = exec .reset { s with host := rest }) ∧
    (s.host = [] → busy s.phase = true → decode (.sequencer s.phase s.opidx) = .op i → step s = exec i s) ∧
    (s.host = .wait :: rest → busy s.phase = true → decode (.sequencer s.phase s.opidx) = .op i →
      step s = exec i { s with host := rest })

/-- R193 to R197: which operation the core performs in each phase, and that every busy phase has one. -/
def Obligations.SequencerSelectsByPhase : Prop :=
  ∀ s : State, s.host = [] →
    (s.phase = .load → step s = exec .load s) ∧ (s.phase = .save → step s = exec .save s) ∧
    (s.phase = .step → step s = exec (decodeOpidx s.opidx) s) ∧ (s.phase = .feed → step s = exec .feed s) ∧
    (s.phase = .fmt → step s = exec .fmt s)

/-- R198: in IDLE, DONE and ERR the core has no step of its own: without a host command nothing changes (log 3). -/
def Obligations.WaitingChangesNothing : Prop :=
  ∀ s : State, busy s.phase = false →
    (s.host = [] → step s = .next s) ∧ (∀ rest, s.host = .wait :: rest → step s = .next { s with host := rest })

/-! ### Whole-machine statements -/

/-- The invariant holds at reset. -/
def Obligations.InvariantAtReset : Prop := Inv State.reset ∧ OnTrack State.reset

/-- R24, R29, R30, R32, R37, R198: every step, of either agent, keeps the invariant. -/
def Obligations.InvariantKeptByStep : Prop := ∀ s t : State, Inv s → step s = .next t → Inv t

/-- R101, R176: every step keeps the run on the track of the functional reading: at each phase the accumulators, saved copies and
message words are what MD5core's block chain gives. -/
def Obligations.OnTrackKeptByStep : Prop := ∀ s t : State, Inv s → OnTrack s → step s = .next t → OnTrack t

/-- R210, R102: in a state that meets the invariant no step faults; a step that answers no next state is the host's refused access
or an unwritten message byte. -/
def Obligations.NoFaultUnderInvariant : Prop :=
  ∀ s : State, Inv s →
    (∀ f, step s ≠ .fault f) ∧
    (∀ r, step s = .refused r → (∃ m rest, s.host = m :: rest ∧ m ≠ .wait ∧ m ≠ .resetInput) ∨ (r = .unwrittenMsgByte ∧ s.phase = .load))

/-- R203: while BUSY and undisturbed, each step of the core completes and brings DONE one step nearer. -/
def Obligations.EveryBusyStepCompletes : Prop :=
  ∀ s : State, Inv s → MessageWritten s → busy s.phase = true → s.host = [] →
    ∃ t : State, step s = .next t ∧ stepsLeft s = stepsLeft t + 1 ∧ MessageWritten t ∧ t.host = [] ∧
      t.len = s.len ∧ (stepsLeft t = 0 ↔ t.phase = .done)

/-- R13, R203: from START on a message that fits and whose bytes are all written, the core is BUSY for 67N + 1 steps of its own and
then DONE, with DIGEST and HEX those of MD5core(MSG[0..L)), whatever the registers held before (R204), MSG and LEN unchanged. -/
def Obligations.RunComputesMd5 : Prop :=
  ∀ (s : State) (m : List Byte), busy s.phase = false → s.issues (.write 0 1) [] → fits s.cfg s.len = true →
    Memory.readBytes s.msg 0 s.len = some m →
    (∀ k, k < 67 * blocks s.len + 1 → ∃ u : State, Sys2Proof.core.run (1 + k) s = .next u ∧ busy u.phase = true) ∧
    ∃ t : State, Sys2Proof.core.run (1 + (67 * blocks s.len + 1)) s = .next t ∧ t.phase = .done ∧
      t.digest = some (serialize (md5core m)) ∧ t.hex = some (hexString (md5core m)) ∧
      t.msg = s.msg ∧ t.len = s.len ∧ t.errcode = .none

/-- R26, R242: the sequencer's control does not depend on content, nor on the model's field out (log 9): two states that agree on everything but the datapath registers,
the message bytes and the values returned agree, after a step each, on phase, blk, op, LEN and ERRCODE. -/
def Obligations.ControlIgnoresContent : Prop :=
  ∀ s s' t t' : State,
    s'.cfg = s.cfg → s'.phase = s.phase → s'.blk = s.blk → s'.opidx = s.opidx → s'.errcode = s.errcode → s'.len = s.len →
    s'.host = s.host → step s = .next t → step s' = .next t' →
    t'.phase = t.phase ∧ t'.blk = t.blk ∧ t'.opidx = t.opidx ∧ t'.errcode = t.errcode ∧ t'.len = t.len ∧ t'.host = t.host

/-- R233, 93 U11: message bytes at or above L cannot influence a run: the core's step is the same whatever they hold. -/
def Obligations.UnreadBytesDoNotMatter : Prop :=
  ∀ (s t : State) (mem : Memory), s.host = [] → (∀ p, p < s.len → Memory.read mem p = Memory.read s.msg p) →
    step s = .next t → step { s with msg := mem } = .next { t with msg := mem }

/-- R47, R199, R201, R208: a host read has no side effect, and what a read returned does not influence the core: reads can fall
between any two of its steps. R84, R86, R90, R97: evaluating PAD, F, G, H, I or TROM writes no state. That the value returned stands
in the field out (log 9), and that the functions run as instructions (log 11), is the model's choice. -/
def Obligations.HostReadsDisturbNothing : Prop :=
  (∀ (i : Instr) (s t : State), returnsOnly i → exec i s = .next t → t = { s with out := t.out }) ∧
  (∀ (s t : State) (v : Option Value), s.host = [] → busy s.phase = true → step s = .next t →
    step { s with out := v } = .next { t with out := v })

/-- R20, R22, R23, R24, R27, R30, R32, R33: which operations write which state, the sequencer's three fields among it (R192 to R197, R231),
and which leave the sequencer where it is. OP64 leaves op at 64 (R195). The counter free is the model's own (log 6), as are the
field out (log 9) and INIT and the functions as instructions (log 11). -/
def Obligations.WhoWritesWhat : Prop :=
  ∀ (i : Instr) (s t : State), exec i s = .next t →
    t.cfg = s.cfg ∧ t.host = s.host ∧
    (∀ a, Memory.read t.msg a = Memory.read s.msg a ∨ ∃ b, i = .wrMsg a b ∧ Memory.read t.msg a = some b) ∧
    (t.len = s.len ∨ i = .reset ∨ i = .wrLen t.len) ∧
    (t.acc = s.acc ∨ i = .reset ∨ i = .start ∨ i = .init ∨ i = .feed ∨ ∃ idx, i = decodeOpidx idx) ∧
    (t.saved = s.saved ∨ i = .reset ∨ i = .save) ∧
    (t.x = s.x ∨ i = .reset ∨ i = .load) ∧
    (t.digest = s.digest ∧ t.hex = s.hex ∨ i = .reset ∨ i = .start ∨ i = .fmt) ∧
    (t.errcode = s.errcode ∨ i = .reset ∨ i = .start) ∧
    (t.blk = s.blk ∨ i = .reset ∨ i = .start ∨ i = .feed) ∧
    (t.phase = s.phase ∨ i = .reset ∨ i = .start ∨ i = .load ∨ i = .save ∨ i = .op64 ∨ i = .feed ∨ i = .fmt) ∧
    (t.opidx = s.opidx ∨ i = .reset ∨ i = .start ∨ i = .save ∨ ∃ idx : BitVec 6, idx ≠ 63 ∧ i = decodeOpidx idx) ∧
    (t.out = s.out ∨ returnsOnly i) ∧
    (t.free = s.free ∨ i = .reset) ∧
    (returnsOnly i ∨ i = .init ∨ (∃ v, i = .wrLen v) ∨ (∃ p b, i = .wrMsg p b) → t.phase = s.phase ∧ t.blk = s.blk ∧ t.opidx = s.opidx)

/-- R86, R236, R232: while BUSY no step changes MSG, and only RESET, as the host's pending move, changes LEN; it abandons the run. -/
def Obligations.MessageFrozenWhileBusy : Prop :=
  ∀ s t : State, busy s.phase = true → step s = .next t →
    t.msg = s.msg ∧ (t.len = s.len ∨ (resetPending s ∧ t.len = 0 ∧ t.phase = .idle))

/-- R216: ERR is left only by a pending START whose LEN is within MSG_CAP, which clears ERRCODE and begins a run, or by a pending
RESET; in every other step ERR stays, and ERRCODE with it unless a START with LEN too large raises the fault again. -/
def Obligations.ErrIsLeftByStartOrReset : Prop :=
  ∀ s t : State, s.phase = .err → step s = .next t →
    (t.phase = .err ∧ (t.errcode = s.errcode ∨ (startPending s ∧ fits s.cfg s.len = false ∧ t.errcode = .capacity))) ∨
    (startPending s ∧ fits s.cfg s.len = true ∧ t.phase = .load ∧ t.errcode = .none) ∨
    (resetPending s ∧ t.phase = .idle ∧ t.errcode = .none)

/-- R7, R49, U12: REG_MAP and the base of MSG are open parameters: whatever they are, an access on the bus at a register's own bus
address steps as the access to that register, and one at the base of MSG plus p as the access to MSG[p]. An address that is no
register's, or that two share, or that lies below the base of MSG, selects nothing and is refused. That an address two registers
share is refused, and that the bus tells the accesses to MSG apart, is the model's choice (log 19). -/
def Obligations.BusAccessesFollowTheMap : Prop :=
  ∀ (s : State) (rest : List HostMove),
    (∀ r : Fin 6, (∀ q : Fin 6, s.cfg.regMap[q] = s.cfg.regMap[r] → q = r) →
      (∀ v, step { s with host := .bus (.write s.cfg.regMap[r] v) :: rest } = step { s with host := .access (.write r v) :: rest }) ∧
      (∀ i, step { s with host := .bus (.read s.cfg.regMap[r] i) :: rest } = step { s with host := .access (.read r i) :: rest })) ∧
    (∀ (p : Nat) (b : Byte),
      step { s with host := .bus (.writeMsg (s.cfg.msgBase + p) b) :: rest } = step { s with host := .access (.writeMsg p b) :: rest }) ∧
    (∀ a : Nat, (∀ r : Fin 6, s.cfg.regMap[r] ≠ a) ∨ (∃ q r : Fin 6, q ≠ r ∧ s.cfg.regMap[q] = a ∧ s.cfg.regMap[r] = a) →
      (∀ v, step { s with host := .bus (.write a v) :: rest } = .refused (.rejected (.noSuchBusAddress a))) ∧
      (∀ i, step { s with host := .bus (.read a i) :: rest } = .refused (.rejected (.noSuchBusAddress a)))) ∧
    (∀ (a : Nat) (b : Byte), a < s.cfg.msgBase →
      step { s with host := .bus (.writeMsg a b) :: rest } = .refused (.rejected (.noSuchBusAddress a)))
end

