-- ==== Sys2Proof/Laws/Data.lean ====
section
/-! SUPPORT. What the data operations do, said once: the words of a Quad, little-endian words, families of optional values, the bytes
a message read gives, and the words a block is decoded into. -/

namespace Sys2Proof.Machine

@[simp] theorem Quad.get_set_same (q : Quad) (n : Fin 4) (v : Word) : (q.set n v).get n = v := by
  fin_cases n <;> rfl

theorem Quad.get_set_other (q : Quad) {n m : Fin 4} (v : Word) (h : m ≠ n) : (q.set n v).get m = q.get m := by
  fin_cases n <;> fin_cases m <;> first | rfl | exact absurd rfl h

/-- The other three registers of an operation are not its destination. -/
theorem roles_distinct : ∀ d : Fin 4, d + 1 ≠ d ∧ d + 2 ≠ d ∧ d + 3 ≠ d := by decide

theorem le32_toNat_eq (b0 b1 b2 b3 : Byte) :
    (le32 b0 b1 b2 b3).toNat = b0.toNat + 2 ^ 8 * b1.toNat + 2 ^ 16 * b2.toNat + 2 ^ 24 * b3.toNat := by
  simp only [le32, BitVec.toNat_append]
  rw [← Nat.shiftLeft_add_eq_or_of_lt b2.isLt, ← Nat.shiftLeft_add_eq_or_of_lt b1.isLt, ← Nat.shiftLeft_add_eq_or_of_lt b0.isLt]
  simp only [Nat.shiftLeft_eq]
  omega

theorem byteOf_toNat {n : Nat} (w : BitVec n) (j : Nat) : (byteOf w j).toNat = w.toNat / 2 ^ (8 * j) % 256 := by
  simp [byteOf, BitVec.extractLsb'_toNat, Nat.shiftRight_eq_div_pow]

/-- `allSome` has a value exactly when every member has one, and then it is the family of those. -/
theorem allSome_eq_some {α : Type} {n : Nat} {f : Fin n → Option α} {v : Vector α n} :
    allSome f = some v ↔ ∀ i : Fin n, f i = some v[i] := by
  unfold allSome
  constructor
  · intro h
    split at h
    · injection h with h
      subst h
      simp
    · cases h
  · intro h
    have hs : ∀ i, (f i).isSome = true := fun i => by rw [h i]; rfl
    rw [dif_pos hs]
    congr 1
    apply Vector.ext
    intro i hi
    simp [h ⟨i, hi⟩]

/-- What `readBytes` gives: as many bytes as asked for, each the one at its address. -/
theorem Memory.readBytes_some {mem : Memory} {p n : Nat} {m : List Byte} (h : Memory.readBytes mem p n = some m) :
    m.length = n ∧ ∀ i, i < n → m[i]? = Memory.read mem (p + i) := by
  induction n generalizing p m with
  | zero =>
    injection h with h
    subst h
    exact ⟨rfl, fun i hi => absurd hi (Nat.not_lt_zero i)⟩
  | succ n ih =>
    simp only [Memory.readBytes] at h
    split at h
    · rename_i b bs hb hbs
      injection h with h
      subst h
      obtain ⟨hl, hi⟩ := ih hbs
      refine ⟨by simp [hl], fun i hlt => ?_⟩
      cases i with
      | zero => simpa using hb.symm
      | succ i =>
        rw [List.getElem?_cons_succ, hi i (by omega)]
        congr 1
        omega
    · cases h

/-- A decoded word is the little-endian word of its four buffer bytes. -/
theorem pbWord_some {m : Memory} {l p : Nat} {w : Word} (h : pbWord m l p = some w) :
    ∃ b0 b1 b2 b3 : Byte, pbByte m l p = some b0 ∧ pbByte m l (p + 1) = some b1 ∧ pbByte m l (p + 2) = some b2 ∧
      pbByte m l (p + 3) = some b3 ∧ w = le32 b0 b1 b2 b3 := by
  unfold pbWord at h
  split at h
  · injection h with h
    exact ⟨_, _, _, _, ‹_›, ‹_›, ‹_›, ‹_›, h.symm⟩
  · cases h

end Sys2Proof.Machine
end

