-- ==== Sys2Proof/Laws/Memory.lean ====
section
/-! SUPPORT. The laws of MSG: a read after a write, and every memory operation keeps the canonical form (`Memory.write` is the
only one that makes a memory). -/

namespace Sys2Proof.Machine

@[simp] theorem Memory.read_nil (p : Nat) : Memory.read [] p = none := rfl

@[simp] theorem Memory.wf_nil : Memory.wf [] = true := rfl

theorem Memory.read_write_same (m : Memory) (p : Nat) (b : Byte) : Memory.read (Memory.write m p b) p = some b := by
  induction m with
  | nil => simp [Memory.write, Memory.read]
  | cons c rest ih =>
    obtain ⟨a, x⟩ := c
    simp only [Memory.write]
    split
    · simp [Memory.read]
    · split
      · simp [Memory.read]
      · rename_i h1 h2
        rw [Memory.read, if_neg (fun h => h2 h.symm), ih]

theorem Memory.read_write_other (m : Memory) {p q : Nat} (b : Byte) (h : q ≠ p) :
    Memory.read (Memory.write m p b) q = Memory.read m q := by
  induction m with
  | nil => simp [Memory.write, Memory.read, Ne.symm h]
  | cons c rest ih =>
    obtain ⟨a, x⟩ := c
    simp only [Memory.write]
    split
    · simp [Memory.read, Ne.symm h]
    · split
      · rename_i h2
        subst h2
        simp [Memory.read, Ne.symm h]
      · simp [Memory.read, ih]

/-- An entry of a written memory is the written one or one of the old ones. -/
theorem Memory.mem_write {m : Memory} {p : Nat} {b : Byte} {c : Host.Cell} (h : c ∈ Memory.write m p b) :
    c = (p, b) ∨ c ∈ m := by
  induction m with
  | nil => simpa [Memory.write] using h
  | cons d rest ih =>
    obtain ⟨a, x⟩ := d
    simp only [Memory.write] at h
    split at h
    · simpa using h
    · split at h
      · rcases List.mem_cons.mp h with h | h
        · exact .inl h
        · exact .inr (List.mem_cons_of_mem _ h)
      · rcases List.mem_cons.mp h with h | h
        · exact .inr (h ▸ List.mem_cons_self)
        · exact (ih h).imp_right (List.mem_cons_of_mem _)

theorem Memory.write_wf {m : Memory} (p : Nat) (b : Byte) (h : Memory.wf m = true) : Memory.wf (Memory.write m p b) = true := by
  induction m with
  | nil => simp [Memory.write, Memory.wf]
  | cons d rest ih =>
    obtain ⟨a, x⟩ := d
    simp only [Memory.wf, Bool.and_eq_true, List.all_eq_true, decide_eq_true_eq] at h
    obtain ⟨hlt, hwf⟩ := h
    simp only [Memory.write]
    split
    · rename_i hp
      simp only [Memory.wf, Bool.and_eq_true, List.all_eq_true, decide_eq_true_eq, List.mem_cons]
      exact ⟨by rintro c (rfl | hc) <;> [exact hp; exact hp.trans (hlt c hc)], hlt, hwf⟩
    · split
      · rename_i hp
        subst hp
        simp only [Memory.wf, Bool.and_eq_true, List.all_eq_true, decide_eq_true_eq]
        exact ⟨hlt, hwf⟩
      · simp only [Memory.wf, Bool.and_eq_true, List.all_eq_true, decide_eq_true_eq]
        refine ⟨fun c hc => ?_, ih hwf⟩
        rcases Memory.mem_write hc with rfl | hc
        · simp only; omega
        · exact hlt c hc

end Sys2Proof.Machine
end

