-- ==== Sys2Proof/Laws/State.lean ====
section
/-! SUPPORT. One lemma for each field of State under each named update (Machine/Ops.lean), and under the composite updates that
the meanings end in. -/

namespace Sys2Proof.Machine

@[simp] theorem State.setAcc_cfg (s : State) (q : Quad) : (s.setAcc q).cfg = s.cfg := rfl
@[simp] theorem State.setAcc_acc (s : State) (q : Quad) : (s.setAcc q).acc = q := rfl
@[simp] theorem State.setAcc_saved (s : State) (q : Quad) : (s.setAcc q).saved = s.saved := rfl
@[simp] theorem State.setAcc_x (s : State) (q : Quad) : (s.setAcc q).x = s.x := rfl
@[simp] theorem State.setAcc_phase (s : State) (q : Quad) : (s.setAcc q).phase = s.phase := rfl
@[simp] theorem State.setAcc_blk (s : State) (q : Quad) : (s.setAcc q).blk = s.blk := rfl
@[simp] theorem State.setAcc_opidx (s : State) (q : Quad) : (s.setAcc q).opidx = s.opidx := rfl
@[simp] theorem State.setAcc_errcode (s : State) (q : Quad) : (s.setAcc q).errcode = s.errcode := rfl
@[simp] theorem State.setAcc_len (s : State) (q : Quad) : (s.setAcc q).len = s.len := rfl
@[simp] theorem State.setAcc_digest (s : State) (q : Quad) : (s.setAcc q).digest = s.digest := rfl
@[simp] theorem State.setAcc_hex (s : State) (q : Quad) : (s.setAcc q).hex = s.hex := rfl
@[simp] theorem State.setAcc_msg (s : State) (q : Quad) : (s.setAcc q).msg = s.msg := rfl
@[simp] theorem State.setAcc_host (s : State) (q : Quad) : (s.setAcc q).host = s.host := rfl
@[simp] theorem State.setAcc_out (s : State) (q : Quad) : (s.setAcc q).out = s.out := rfl
@[simp] theorem State.setAcc_free (s : State) (q : Quad) : (s.setAcc q).free = s.free := rfl

@[simp] theorem State.setSaved_cfg (s : State) (q : Quad) : (s.setSaved q).cfg = s.cfg := rfl
@[simp] theorem State.setSaved_acc (s : State) (q : Quad) : (s.setSaved q).acc = s.acc := rfl
@[simp] theorem State.setSaved_saved (s : State) (q : Quad) : (s.setSaved q).saved = q := rfl
@[simp] theorem State.setSaved_x (s : State) (q : Quad) : (s.setSaved q).x = s.x := rfl
@[simp] theorem State.setSaved_phase (s : State) (q : Quad) : (s.setSaved q).phase = s.phase := rfl
@[simp] theorem State.setSaved_blk (s : State) (q : Quad) : (s.setSaved q).blk = s.blk := rfl
@[simp] theorem State.setSaved_opidx (s : State) (q : Quad) : (s.setSaved q).opidx = s.opidx := rfl
@[simp] theorem State.setSaved_errcode (s : State) (q : Quad) : (s.setSaved q).errcode = s.errcode := rfl
@[simp] theorem State.setSaved_len (s : State) (q : Quad) : (s.setSaved q).len = s.len := rfl
@[simp] theorem State.setSaved_digest (s : State) (q : Quad) : (s.setSaved q).digest = s.digest := rfl
@[simp] theorem State.setSaved_hex (s : State) (q : Quad) : (s.setSaved q).hex = s.hex := rfl
@[simp] theorem State.setSaved_msg (s : State) (q : Quad) : (s.setSaved q).msg = s.msg := rfl
@[simp] theorem State.setSaved_host (s : State) (q : Quad) : (s.setSaved q).host = s.host := rfl
@[simp] theorem State.setSaved_out (s : State) (q : Quad) : (s.setSaved q).out = s.out := rfl
@[simp] theorem State.setSaved_free (s : State) (q : Quad) : (s.setSaved q).free = s.free := rfl

@[simp] theorem State.setX_cfg (s : State) (v : Vector Word 16) : (s.setX v).cfg = s.cfg := rfl
@[simp] theorem State.setX_acc (s : State) (v : Vector Word 16) : (s.setX v).acc = s.acc := rfl
@[simp] theorem State.setX_saved (s : State) (v : Vector Word 16) : (s.setX v).saved = s.saved := rfl
@[simp] theorem State.setX_x (s : State) (v : Vector Word 16) : (s.setX v).x = v := rfl
@[simp] theorem State.setX_phase (s : State) (v : Vector Word 16) : (s.setX v).phase = s.phase := rfl
@[simp] theorem State.setX_blk (s : State) (v : Vector Word 16) : (s.setX v).blk = s.blk := rfl
@[simp] theorem State.setX_opidx (s : State) (v : Vector Word 16) : (s.setX v).opidx = s.opidx := rfl
@[simp] theorem State.setX_errcode (s : State) (v : Vector Word 16) : (s.setX v).errcode = s.errcode := rfl
@[simp] theorem State.setX_len (s : State) (v : Vector Word 16) : (s.setX v).len = s.len := rfl
@[simp] theorem State.setX_digest (s : State) (v : Vector Word 16) : (s.setX v).digest = s.digest := rfl
@[simp] theorem State.setX_hex (s : State) (v : Vector Word 16) : (s.setX v).hex = s.hex := rfl
@[simp] theorem State.setX_msg (s : State) (v : Vector Word 16) : (s.setX v).msg = s.msg := rfl
@[simp] theorem State.setX_host (s : State) (v : Vector Word 16) : (s.setX v).host = s.host := rfl
@[simp] theorem State.setX_out (s : State) (v : Vector Word 16) : (s.setX v).out = s.out := rfl
@[simp] theorem State.setX_free (s : State) (v : Vector Word 16) : (s.setX v).free = s.free := rfl

@[simp] theorem State.goTo_cfg (s : State) (p : Phase) (n : Nat) (i : BitVec 6) : (s.goTo p n i).cfg = s.cfg := rfl
@[simp] theorem State.goTo_acc (s : State) (p : Phase) (n : Nat) (i : BitVec 6) : (s.goTo p n i).acc = s.acc := rfl
@[simp] theorem State.goTo_saved (s : State) (p : Phase) (n : Nat) (i : BitVec 6) : (s.goTo p n i).saved = s.saved := rfl
@[simp] theorem State.goTo_x (s : State) (p : Phase) (n : Nat) (i : BitVec 6) : (s.goTo p n i).x = s.x := rfl
@[simp] theorem State.goTo_phase (s : State) (p : Phase) (n : Nat) (i : BitVec 6) : (s.goTo p n i).phase = p := rfl
@[simp] theorem State.goTo_blk (s : State) (p : Phase) (n : Nat) (i : BitVec 6) : (s.goTo p n i).blk = n := rfl
@[simp] theorem State.goTo_opidx (s : State) (p : Phase) (n : Nat) (i : BitVec 6) : (s.goTo p n i).opidx = i := rfl
@[simp] theorem State.goTo_errcode (s : State) (p : Phase) (n : Nat) (i : BitVec 6) : (s.goTo p n i).errcode = s.errcode := rfl
@[simp] theorem State.goTo_len (s : State) (p : Phase) (n : Nat) (i : BitVec 6) : (s.goTo p n i).len = s.len := rfl
@[simp] theorem State.goTo_digest (s : State) (p : Phase) (n : Nat) (i : BitVec 6) : (s.goTo p n i).digest = s.digest := rfl
@[simp] theorem State.goTo_hex (s : State) (p : Phase) (n : Nat) (i : BitVec 6) : (s.goTo p n i).hex = s.hex := rfl
@[simp] theorem State.goTo_msg (s : State) (p : Phase) (n : Nat) (i : BitVec 6) : (s.goTo p n i).msg = s.msg := rfl
@[simp] theorem State.goTo_host (s : State) (p : Phase) (n : Nat) (i : BitVec 6) : (s.goTo p n i).host = s.host := rfl
@[simp] theorem State.goTo_out (s : State) (p : Phase) (n : Nat) (i : BitVec 6) : (s.goTo p n i).out = s.out := rfl
@[simp] theorem State.goTo_free (s : State) (p : Phase) (n : Nat) (i : BitVec 6) : (s.goTo p n i).free = s.free := rfl

@[simp] theorem State.setErrcode_cfg (s : State) (e : ErrCode) : (s.setErrcode e).cfg = s.cfg := rfl
@[simp] theorem State.setErrcode_acc (s : State) (e : ErrCode) : (s.setErrcode e).acc = s.acc := rfl
@[simp] theorem State.setErrcode_saved (s : State) (e : ErrCode) : (s.setErrcode e).saved = s.saved := rfl
@[simp] theorem State.setErrcode_x (s : State) (e : ErrCode) : (s.setErrcode e).x = s.x := rfl
@[simp] theorem State.setErrcode_phase (s : State) (e : ErrCode) : (s.setErrcode e).phase = s.phase := rfl
@[simp] theorem State.setErrcode_blk (s : State) (e : ErrCode) : (s.setErrcode e).blk = s.blk := rfl
@[simp] theorem State.setErrcode_opidx (s : State) (e : ErrCode) : (s.setErrcode e).opidx = s.opidx := rfl
@[simp] theorem State.setErrcode_errcode (s : State) (e : ErrCode) : (s.setErrcode e).errcode = e := rfl
@[simp] theorem State.setErrcode_len (s : State) (e : ErrCode) : (s.setErrcode e).len = s.len := rfl
@[simp] theorem State.setErrcode_digest (s : State) (e : ErrCode) : (s.setErrcode e).digest = s.digest := rfl
@[simp] theorem State.setErrcode_hex (s : State) (e : ErrCode) : (s.setErrcode e).hex = s.hex := rfl
@[simp] theorem State.setErrcode_msg (s : State) (e : ErrCode) : (s.setErrcode e).msg = s.msg := rfl
@[simp] theorem State.setErrcode_host (s : State) (e : ErrCode) : (s.setErrcode e).host = s.host := rfl
@[simp] theorem State.setErrcode_out (s : State) (e : ErrCode) : (s.setErrcode e).out = s.out := rfl
@[simp] theorem State.setErrcode_free (s : State) (e : ErrCode) : (s.setErrcode e).free = s.free := rfl

@[simp] theorem State.setLen_cfg (s : State) (l : Nat) : (s.setLen l).cfg = s.cfg := rfl
@[simp] theorem State.setLen_acc (s : State) (l : Nat) : (s.setLen l).acc = s.acc := rfl
@[simp] theorem State.setLen_saved (s : State) (l : Nat) : (s.setLen l).saved = s.saved := rfl
@[simp] theorem State.setLen_x (s : State) (l : Nat) : (s.setLen l).x = s.x := rfl
@[simp] theorem State.setLen_phase (s : State) (l : Nat) : (s.setLen l).phase = s.phase := rfl
@[simp] theorem State.setLen_blk (s : State) (l : Nat) : (s.setLen l).blk = s.blk := rfl
@[simp] theorem State.setLen_opidx (s : State) (l : Nat) : (s.setLen l).opidx = s.opidx := rfl
@[simp] theorem State.setLen_errcode (s : State) (l : Nat) : (s.setLen l).errcode = s.errcode := rfl
@[simp] theorem State.setLen_len (s : State) (l : Nat) : (s.setLen l).len = l := rfl
@[simp] theorem State.setLen_digest (s : State) (l : Nat) : (s.setLen l).digest = s.digest := rfl
@[simp] theorem State.setLen_hex (s : State) (l : Nat) : (s.setLen l).hex = s.hex := rfl
@[simp] theorem State.setLen_msg (s : State) (l : Nat) : (s.setLen l).msg = s.msg := rfl
@[simp] theorem State.setLen_host (s : State) (l : Nat) : (s.setLen l).host = s.host := rfl
@[simp] theorem State.setLen_out (s : State) (l : Nat) : (s.setLen l).out = s.out := rfl
@[simp] theorem State.setLen_free (s : State) (l : Nat) : (s.setLen l).free = s.free := rfl

@[simp] theorem State.setOutputs_cfg (s : State) (d : Option (Vector Byte 16)) (h : Option (Vector Byte 32)) : (s.setOutputs d h).cfg = s.cfg := rfl
@[simp] theorem State.setOutputs_acc (s : State) (d : Option (Vector Byte 16)) (h : Option (Vector Byte 32)) : (s.setOutputs d h).acc = s.acc := rfl
@[simp] theorem State.setOutputs_saved (s : State) (d : Option (Vector Byte 16)) (h : Option (Vector Byte 32)) : (s.setOutputs d h).saved = s.saved := rfl
@[simp] theorem State.setOutputs_x (s : State) (d : Option (Vector Byte 16)) (h : Option (Vector Byte 32)) : (s.setOutputs d h).x = s.x := rfl
@[simp] theorem State.setOutputs_phase (s : State) (d : Option (Vector Byte 16)) (h : Option (Vector Byte 32)) : (s.setOutputs d h).phase = s.phase := rfl
@[simp] theorem State.setOutputs_blk (s : State) (d : Option (Vector Byte 16)) (h : Option (Vector Byte 32)) : (s.setOutputs d h).blk = s.blk := rfl
@[simp] theorem State.setOutputs_opidx (s : State) (d : Option (Vector Byte 16)) (h : Option (Vector Byte 32)) : (s.setOutputs d h).opidx = s.opidx := rfl
@[simp] theorem State.setOutputs_errcode (s : State) (d : Option (Vector Byte 16)) (h : Option (Vector Byte 32)) : (s.setOutputs d h).errcode = s.errcode := rfl
@[simp] theorem State.setOutputs_len (s : State) (d : Option (Vector Byte 16)) (h : Option (Vector Byte 32)) : (s.setOutputs d h).len = s.len := rfl
@[simp] theorem State.setOutputs_digest (s : State) (d : Option (Vector Byte 16)) (h : Option (Vector Byte 32)) : (s.setOutputs d h).digest = d := rfl
@[simp] theorem State.setOutputs_hex (s : State) (d : Option (Vector Byte 16)) (h : Option (Vector Byte 32)) : (s.setOutputs d h).hex = h := rfl
@[simp] theorem State.setOutputs_msg (s : State) (d : Option (Vector Byte 16)) (h : Option (Vector Byte 32)) : (s.setOutputs d h).msg = s.msg := rfl
@[simp] theorem State.setOutputs_host (s : State) (d : Option (Vector Byte 16)) (h : Option (Vector Byte 32)) : (s.setOutputs d h).host = s.host := rfl
@[simp] theorem State.setOutputs_out (s : State) (d : Option (Vector Byte 16)) (h : Option (Vector Byte 32)) : (s.setOutputs d h).out = s.out := rfl
@[simp] theorem State.setOutputs_free (s : State) (d : Option (Vector Byte 16)) (h : Option (Vector Byte 32)) : (s.setOutputs d h).free = s.free := rfl

@[simp] theorem State.setMsg_cfg (s : State) (m : Memory) : (s.setMsg m).cfg = s.cfg := rfl
@[simp] theorem State.setMsg_acc (s : State) (m : Memory) : (s.setMsg m).acc = s.acc := rfl
@[simp] theorem State.setMsg_saved (s : State) (m : Memory) : (s.setMsg m).saved = s.saved := rfl
@[simp] theorem State.setMsg_x (s : State) (m : Memory) : (s.setMsg m).x = s.x := rfl
@[simp] theorem State.setMsg_phase (s : State) (m : Memory) : (s.setMsg m).phase = s.phase := rfl
@[simp] theorem State.setMsg_blk (s : State) (m : Memory) : (s.setMsg m).blk = s.blk := rfl
@[simp] theorem State.setMsg_opidx (s : State) (m : Memory) : (s.setMsg m).opidx = s.opidx := rfl
@[simp] theorem State.setMsg_errcode (s : State) (m : Memory) : (s.setMsg m).errcode = s.errcode := rfl
@[simp] theorem State.setMsg_len (s : State) (m : Memory) : (s.setMsg m).len = s.len := rfl
@[simp] theorem State.setMsg_digest (s : State) (m : Memory) : (s.setMsg m).digest = s.digest := rfl
@[simp] theorem State.setMsg_hex (s : State) (m : Memory) : (s.setMsg m).hex = s.hex := rfl
@[simp] theorem State.setMsg_msg (s : State) (m : Memory) : (s.setMsg m).msg = m := rfl
@[simp] theorem State.setMsg_host (s : State) (m : Memory) : (s.setMsg m).host = s.host := rfl
@[simp] theorem State.setMsg_out (s : State) (m : Memory) : (s.setMsg m).out = s.out := rfl
@[simp] theorem State.setMsg_free (s : State) (m : Memory) : (s.setMsg m).free = s.free := rfl

@[simp] theorem State.setHost_cfg (s : State) (h : List HostMove) : (s.setHost h).cfg = s.cfg := rfl
@[simp] theorem State.setHost_acc (s : State) (h : List HostMove) : (s.setHost h).acc = s.acc := rfl
@[simp] theorem State.setHost_saved (s : State) (h : List HostMove) : (s.setHost h).saved = s.saved := rfl
@[simp] theorem State.setHost_x (s : State) (h : List HostMove) : (s.setHost h).x = s.x := rfl
@[simp] theorem State.setHost_phase (s : State) (h : List HostMove) : (s.setHost h).phase = s.phase := rfl
@[simp] theorem State.setHost_blk (s : State) (h : List HostMove) : (s.setHost h).blk = s.blk := rfl
@[simp] theorem State.setHost_opidx (s : State) (h : List HostMove) : (s.setHost h).opidx = s.opidx := rfl
@[simp] theorem State.setHost_errcode (s : State) (h : List HostMove) : (s.setHost h).errcode = s.errcode := rfl
@[simp] theorem State.setHost_len (s : State) (h : List HostMove) : (s.setHost h).len = s.len := rfl
@[simp] theorem State.setHost_digest (s : State) (h : List HostMove) : (s.setHost h).digest = s.digest := rfl
@[simp] theorem State.setHost_hex (s : State) (h : List HostMove) : (s.setHost h).hex = s.hex := rfl
@[simp] theorem State.setHost_msg (s : State) (h : List HostMove) : (s.setHost h).msg = s.msg := rfl
@[simp] theorem State.setHost_host (s : State) (h : List HostMove) : (s.setHost h).host = h := rfl
@[simp] theorem State.setHost_out (s : State) (h : List HostMove) : (s.setHost h).out = s.out := rfl
@[simp] theorem State.setHost_free (s : State) (h : List HostMove) : (s.setHost h).free = s.free := rfl

@[simp] theorem State.setOut_cfg (s : State) (v : Value) : (s.setOut v).cfg = s.cfg := rfl
@[simp] theorem State.setOut_acc (s : State) (v : Value) : (s.setOut v).acc = s.acc := rfl
@[simp] theorem State.setOut_saved (s : State) (v : Value) : (s.setOut v).saved = s.saved := rfl
@[simp] theorem State.setOut_x (s : State) (v : Value) : (s.setOut v).x = s.x := rfl
@[simp] theorem State.setOut_phase (s : State) (v : Value) : (s.setOut v).phase = s.phase := rfl
@[simp] theorem State.setOut_blk (s : State) (v : Value) : (s.setOut v).blk = s.blk := rfl
@[simp] theorem State.setOut_opidx (s : State) (v : Value) : (s.setOut v).opidx = s.opidx := rfl
@[simp] theorem State.setOut_errcode (s : State) (v : Value) : (s.setOut v).errcode = s.errcode := rfl
@[simp] theorem State.setOut_len (s : State) (v : Value) : (s.setOut v).len = s.len := rfl
@[simp] theorem State.setOut_digest (s : State) (v : Value) : (s.setOut v).digest = s.digest := rfl
@[simp] theorem State.setOut_hex (s : State) (v : Value) : (s.setOut v).hex = s.hex := rfl
@[simp] theorem State.setOut_msg (s : State) (v : Value) : (s.setOut v).msg = s.msg := rfl
@[simp] theorem State.setOut_host (s : State) (v : Value) : (s.setOut v).host = s.host := rfl
@[simp] theorem State.setOut_out (s : State) (v : Value) : (s.setOut v).out = some v := rfl
@[simp] theorem State.setOut_free (s : State) (v : Value) : (s.setOut v).free = s.free := rfl

@[simp] theorem State.setFree_cfg (s : State) (n : Nat) : (s.setFree n).cfg = s.cfg := rfl
@[simp] theorem State.setFree_acc (s : State) (n : Nat) : (s.setFree n).acc = s.acc := rfl
@[simp] theorem State.setFree_saved (s : State) (n : Nat) : (s.setFree n).saved = s.saved := rfl
@[simp] theorem State.setFree_x (s : State) (n : Nat) : (s.setFree n).x = s.x := rfl
@[simp] theorem State.setFree_phase (s : State) (n : Nat) : (s.setFree n).phase = s.phase := rfl
@[simp] theorem State.setFree_blk (s : State) (n : Nat) : (s.setFree n).blk = s.blk := rfl
@[simp] theorem State.setFree_opidx (s : State) (n : Nat) : (s.setFree n).opidx = s.opidx := rfl
@[simp] theorem State.setFree_errcode (s : State) (n : Nat) : (s.setFree n).errcode = s.errcode := rfl
@[simp] theorem State.setFree_len (s : State) (n : Nat) : (s.setFree n).len = s.len := rfl
@[simp] theorem State.setFree_digest (s : State) (n : Nat) : (s.setFree n).digest = s.digest := rfl
@[simp] theorem State.setFree_hex (s : State) (n : Nat) : (s.setFree n).hex = s.hex := rfl
@[simp] theorem State.setFree_msg (s : State) (n : Nat) : (s.setFree n).msg = s.msg := rfl
@[simp] theorem State.setFree_host (s : State) (n : Nat) : (s.setFree n).host = s.host := rfl
@[simp] theorem State.setFree_out (s : State) (n : Nat) : (s.setFree n).out = s.out := rfl
@[simp] theorem State.setFree_free (s : State) (n : Nat) : (s.setFree n).free = n := rfl

@[simp] theorem State.raiseCapacityFault_cfg (s : State) : s.raiseCapacityFault.cfg = s.cfg := rfl
@[simp] theorem State.raiseCapacityFault_acc (s : State) : s.raiseCapacityFault.acc = s.acc := rfl
@[simp] theorem State.raiseCapacityFault_saved (s : State) : s.raiseCapacityFault.saved = s.saved := rfl
@[simp] theorem State.raiseCapacityFault_x (s : State) : s.raiseCapacityFault.x = s.x := rfl
@[simp] theorem State.raiseCapacityFault_phase (s : State) : s.raiseCapacityFault.phase = .err := rfl
@[simp] theorem State.raiseCapacityFault_blk (s : State) : s.raiseCapacityFault.blk = s.blk := rfl
@[simp] theorem State.raiseCapacityFault_opidx (s : State) : s.raiseCapacityFault.opidx = s.opidx := rfl
@[simp] theorem State.raiseCapacityFault_errcode (s : State) : s.raiseCapacityFault.errcode = .capacity := rfl
@[simp] theorem State.raiseCapacityFault_len (s : State) : s.raiseCapacityFault.len = s.len := rfl
@[simp] theorem State.raiseCapacityFault_digest (s : State) : s.raiseCapacityFault.digest = none := rfl
@[simp] theorem State.raiseCapacityFault_hex (s : State) : s.raiseCapacityFault.hex = none := rfl
@[simp] theorem State.raiseCapacityFault_msg (s : State) : s.raiseCapacityFault.msg = s.msg := rfl
@[simp] theorem State.raiseCapacityFault_host (s : State) : s.raiseCapacityFault.host = s.host := rfl
@[simp] theorem State.raiseCapacityFault_out (s : State) : s.raiseCapacityFault.out = s.out := rfl
@[simp] theorem State.raiseCapacityFault_free (s : State) : s.raiseCapacityFault.free = s.free := rfl

@[simp] theorem State.acceptStart_cfg (s : State) : s.acceptStart.cfg = s.cfg := rfl
@[simp] theorem State.acceptStart_acc (s : State) : s.acceptStart.acc = iv := rfl
@[simp] theorem State.acceptStart_saved (s : State) : s.acceptStart.saved = s.saved := rfl
@[simp] theorem State.acceptStart_x (s : State) : s.acceptStart.x = s.x := rfl
@[simp] theorem State.acceptStart_phase (s : State) : s.acceptStart.phase = .load := rfl
@[simp] theorem State.acceptStart_blk (s : State) : s.acceptStart.blk = 0 := rfl
@[simp] theorem State.acceptStart_opidx (s : State) : s.acceptStart.opidx = 0 := rfl
@[simp] theorem State.acceptStart_errcode (s : State) : s.acceptStart.errcode = .none := rfl
@[simp] theorem State.acceptStart_len (s : State) : s.acceptStart.len = s.len := rfl
@[simp] theorem State.acceptStart_digest (s : State) : s.acceptStart.digest = none := rfl
@[simp] theorem State.acceptStart_hex (s : State) : s.acceptStart.hex = none := rfl
@[simp] theorem State.acceptStart_msg (s : State) : s.acceptStart.msg = s.msg := rfl
@[simp] theorem State.acceptStart_host (s : State) : s.acceptStart.host = s.host := rfl
@[simp] theorem State.acceptStart_out (s : State) : s.acceptStart.out = s.out := rfl
@[simp] theorem State.acceptStart_free (s : State) : s.acceptStart.free = s.free := rfl

@[simp] theorem State.waiting_cfg (s : State) : s.waiting.cfg = s.cfg := rfl
@[simp] theorem State.waiting_acc (s : State) : s.waiting.acc = s.acc := rfl
@[simp] theorem State.waiting_saved (s : State) : s.waiting.saved = s.saved := rfl
@[simp] theorem State.waiting_x (s : State) : s.waiting.x = s.x := rfl
@[simp] theorem State.waiting_phase (s : State) : s.waiting.phase = s.phase := rfl
@[simp] theorem State.waiting_blk (s : State) : s.waiting.blk = s.blk := rfl
@[simp] theorem State.waiting_opidx (s : State) : s.waiting.opidx = s.opidx := rfl
@[simp] theorem State.waiting_errcode (s : State) : s.waiting.errcode = s.errcode := rfl
@[simp] theorem State.waiting_len (s : State) : s.waiting.len = s.len := rfl
@[simp] theorem State.waiting_digest (s : State) : s.waiting.digest = s.digest := rfl
@[simp] theorem State.waiting_hex (s : State) : s.waiting.hex = s.hex := rfl
@[simp] theorem State.waiting_msg (s : State) : s.waiting.msg = s.msg := rfl
@[simp] theorem State.waiting_host (s : State) : s.waiting.host = s.host.tail := rfl
@[simp] theorem State.waiting_out (s : State) : s.waiting.out = s.out := rfl
@[simp] theorem State.waiting_free (s : State) : s.waiting.free = s.free := rfl

@[simp] theorem State.scramble_cfg (s : State) : s.scramble.cfg = s.cfg := rfl
@[simp] theorem State.scramble_phase (s : State) : s.scramble.phase = s.phase := rfl
@[simp] theorem State.scramble_blk (s : State) : s.scramble.blk = s.blk := rfl
@[simp] theorem State.scramble_opidx (s : State) : s.scramble.opidx = s.opidx := rfl
@[simp] theorem State.scramble_errcode (s : State) : s.scramble.errcode = s.errcode := rfl
@[simp] theorem State.scramble_len (s : State) : s.scramble.len = s.len := rfl
@[simp] theorem State.scramble_digest (s : State) : s.scramble.digest = s.digest := rfl
@[simp] theorem State.scramble_hex (s : State) : s.scramble.hex = s.hex := rfl
@[simp] theorem State.scramble_msg (s : State) : s.scramble.msg = s.msg := rfl
@[simp] theorem State.scramble_host (s : State) : s.scramble.host = s.host := rfl
@[simp] theorem State.scramble_out (s : State) : s.scramble.out = s.out := rfl
@[simp] theorem State.scramble_free (s : State) : s.scramble.free = s.free + 24 := rfl

@[simp] theorem State.afterOperation_cfg (s : State) : s.afterOperation.cfg = s.cfg := by
  unfold State.afterOperation; split <;> rfl
@[simp] theorem State.afterOperation_acc (s : State) : s.afterOperation.acc = s.acc := by
  unfold State.afterOperation; split <;> rfl
@[simp] theorem State.afterOperation_saved (s : State) : s.afterOperation.saved = s.saved := by
  unfold State.afterOperation; split <;> rfl
@[simp] theorem State.afterOperation_x (s : State) : s.afterOperation.x = s.x := by
  unfold State.afterOperation; split <;> rfl
@[simp] theorem State.afterOperation_blk (s : State) : s.afterOperation.blk = s.blk := by
  unfold State.afterOperation; split <;> rfl
@[simp] theorem State.afterOperation_errcode (s : State) : s.afterOperation.errcode = s.errcode := by
  unfold State.afterOperation; split <;> rfl
@[simp] theorem State.afterOperation_len (s : State) : s.afterOperation.len = s.len := by
  unfold State.afterOperation; split <;> rfl
@[simp] theorem State.afterOperation_digest (s : State) : s.afterOperation.digest = s.digest := by
  unfold State.afterOperation; split <;> rfl
@[simp] theorem State.afterOperation_hex (s : State) : s.afterOperation.hex = s.hex := by
  unfold State.afterOperation; split <;> rfl
@[simp] theorem State.afterOperation_msg (s : State) : s.afterOperation.msg = s.msg := by
  unfold State.afterOperation; split <;> rfl
@[simp] theorem State.afterOperation_host (s : State) : s.afterOperation.host = s.host := by
  unfold State.afterOperation; split <;> rfl
@[simp] theorem State.afterOperation_out (s : State) : s.afterOperation.out = s.out := by
  unfold State.afterOperation; split <;> rfl
@[simp] theorem State.afterOperation_free (s : State) : s.afterOperation.free = s.free := by
  unfold State.afterOperation; split <;> rfl

@[simp] theorem State.afterFeed_cfg (s : State) : s.afterFeed.cfg = s.cfg := by
  unfold State.afterFeed; split <;> rfl
@[simp] theorem State.afterFeed_acc (s : State) : s.afterFeed.acc = s.acc := by
  unfold State.afterFeed; split <;> rfl
@[simp] theorem State.afterFeed_saved (s : State) : s.afterFeed.saved = s.saved := by
  unfold State.afterFeed; split <;> rfl
@[simp] theorem State.afterFeed_x (s : State) : s.afterFeed.x = s.x := by
  unfold State.afterFeed; split <;> rfl
@[simp] theorem State.afterFeed_opidx (s : State) : s.afterFeed.opidx = s.opidx := by
  unfold State.afterFeed; split <;> rfl
@[simp] theorem State.afterFeed_errcode (s : State) : s.afterFeed.errcode = s.errcode := by
  unfold State.afterFeed; split <;> rfl
@[simp] theorem State.afterFeed_len (s : State) : s.afterFeed.len = s.len := by
  unfold State.afterFeed; split <;> rfl
@[simp] theorem State.afterFeed_digest (s : State) : s.afterFeed.digest = s.digest := by
  unfold State.afterFeed; split <;> rfl
@[simp] theorem State.afterFeed_hex (s : State) : s.afterFeed.hex = s.hex := by
  unfold State.afterFeed; split <;> rfl
@[simp] theorem State.afterFeed_msg (s : State) : s.afterFeed.msg = s.msg := by
  unfold State.afterFeed; split <;> rfl
@[simp] theorem State.afterFeed_host (s : State) : s.afterFeed.host = s.host := by
  unfold State.afterFeed; split <;> rfl
@[simp] theorem State.afterFeed_out (s : State) : s.afterFeed.out = s.out := by
  unfold State.afterFeed; split <;> rfl
@[simp] theorem State.afterFeed_free (s : State) : s.afterFeed.free = s.free := by
  unfold State.afterFeed; split <;> rfl

end Sys2Proof.Machine
end

