-- ==== Sys2Proof/Laws/Ops.lean ====
section
/-! SUPPORT. What each shared operation can do, said once: the guards, the generic operation, reading an output, fetching, and the
step. -/

namespace Sys2Proof.Machine

theorem whenPhase_next {p : Phase} {s t : State} {k : Host.Outcome State Fault Refusal} (h : whenPhase p s k = .next t) :
    s.phase = p ∧ k = .next t := by
  unfold whenPhase at h
  split at h
  · exact ⟨‹_›, h⟩
  · cases h

theorem whenPhase_pos {p : Phase} {s : State} (k : Host.Outcome State Fault Refusal) (h : s.phase = p) : whenPhase p s k = k :=
  if_pos h

theorem whenNotBusy_next {r : Refusal} {s t : State} {k : Host.Outcome State Fault Refusal}
    (h : whenNotBusy r s k = .next t) : busy s.phase = false ∧ k = .next t := by
  unfold whenNotBusy at h
  cases hb : busy s.phase with
  | true => rw [hb, if_pos rfl] at h; cases h
  | false => rw [hb] at h; exact ⟨rfl, h⟩

theorem whenNotBusy_pos {r : Refusal} {s : State} (k : Host.Outcome State Fault Refusal) (h : busy s.phase = false) :
    whenNotBusy r s k = k := by
  simp [whenNotBusy, h]

/-- An operation's only next state: in phase STEP at its own opidx, the accumulators operated on and the sequencer advanced. -/
theorem runOperation_next {d : Descr} {s t : State} (h : runOperation d s = .next t) :
    s.phase = .step ∧ s.opidx = d.opidx ∧ t = (s.setAcc (operate d s.x s.acc)).afterOperation := by
  obtain ⟨hp, hk⟩ := whenPhase_next h
  split at hk
  · exact ⟨hp, ‹_›, by injection hk with hk; exact hk.symm⟩
  · cases hk

theorem runOperation_pos {d : Descr} {s : State} (hp : s.phase = .step) (ho : s.opidx = d.opidx) :
    runOperation d s = .next (s.setAcc (operate d s.x s.acc)).afterOperation := by
  rw [runOperation, whenPhase_pos _ hp, if_pos ho]

/-- Reading an output's only next state: in DONE, with a value, at a cell that exists. -/
theorem readOutput_next {n : Nat} {o : Option (Vector Byte n)} {i : Nat} {wrap : Byte → Value} {s t : State}
    (h : readOutput o i wrap s = .next t) :
    s.phase = .done ∧ ∃ v, o = some v ∧ ∃ hi : i < n, t = s.setOut (wrap v[i]) := by
  unfold readOutput at h
  split at h
  · split at h
    · split at h
      · injection h with h
        exact ⟨‹_›, _, rfl, ‹_›, h.symm⟩
      · cases h
    · cases h
  · cases h

theorem execLoad_next {s t : State} (h : execLoad s = .next t) :
    s.phase = .load ∧ s.blk < blocks s.len ∧
      ∃ x, blockWords s.msg s.len s.blk = some x ∧ t = (s.setX x).goTo .save s.blk s.opidx := by
  obtain ⟨hp, hk⟩ := whenPhase_next h
  split at hk
  · split at hk
    · injection hk with hk
      exact ⟨hp, ‹_›, _, ‹_›, hk.symm⟩
    · cases hk
  · cases hk

/-- The core's fetch gives the code its phase and opidx select, and only while BUSY. -/
theorem coreFetch_some {s t : State} {c : Code} (h : coreFetch s = some (c, t)) :
    busy s.phase = true ∧ c = .sequencer s.phase s.opidx ∧ t = s := by
  unfold coreFetch at h
  cases hb : busy s.phase with
  | true =>
    rw [hb, if_pos rfl] at h
    injection h with h
    injection h with h1 h2
    exact ⟨rfl, h1.symm, h2.symm⟩
  | false => rw [hb] at h; cases h

/-- Everything a fetch can give. -/
theorem fetch_cases {s t : State} {c : Code} (h : fetch s = some (c, t)) :
    (∃ rest, s.host = .resetInput :: rest ∧ c = .resetInput ∧ t = s.setHost rest) ∨
    (∃ a rest, s.issues a rest ∧ c = .access a ∧ t = s.setHost rest) ∨
    (∃ b rest, s.host = .bus b :: rest ∧ busAccess s.cfg b = none ∧ c = .unmapped (busAddress b) ∧ t = s.setHost rest) ∨
    (busy s.phase = true ∧ c = .sequencer s.phase s.opidx ∧
      (s.host = [] ∧ t = s ∨ ∃ rest, s.host = .wait :: rest ∧ t = s.setHost rest)) := by
  unfold fetch at h
  split at h
  · obtain ⟨hb, hc, ht⟩ := coreFetch_some h
    exact .inr (.inr (.inr ⟨hb, hc, .inl ⟨‹_›, ht⟩⟩))
  · obtain ⟨hb, hc, ht⟩ := coreFetch_some h
    exact .inr (.inr (.inr ⟨hb, hc, .inr ⟨_, ‹_›, ht⟩⟩))
  · injection h with h
    injection h with h1 h2
    exact .inl ⟨_, ‹_›, h1.symm, h2.symm⟩
  · injection h with h
    injection h with h1 h2
    exact .inr (.inl ⟨_, _, ⟨_, ‹_›, rfl⟩, h1.symm, h2.symm⟩)
  · rename_i b rest hh
    injection h with h
    injection h with h1 h2
    cases hb : busAccess s.cfg b with
    | some a => exact .inr (.inl ⟨a, rest, ⟨_, hh, hb⟩, by rw [← h1, busCode, hb], h2.symm⟩)
    | none => exact .inr (.inr (.inl ⟨b, rest, hh, hb, by rw [← h1, busCode, hb], h2.symm⟩))

/-- An access the host issues, by number or on the bus, is fetched as the access by number, with the move used up. -/
theorem fetch_issues {s : State} {a : Access} {rest : List HostMove} (h : s.issues a rest) :
    fetch s = some (.access a, s.setHost rest) := by
  obtain ⟨m, hh, ha⟩ := h
  cases m with
  | wait => cases ha
  | resetInput => cases ha
  | access x => injection ha with ha; subst ha; simp [fetch, hh]
  | bus b => have hb : busAccess s.cfg b = some a := ha; simp [fetch, hh, busCode, hb]

/-- The bus address of a register, where no other register has it, selects that register. -/
theorem registerAt_regMap {c : Config} {r : Fin 6} (h : ∀ q : Fin 6, c.regMap[q] = c.regMap[r] → q = r) :
    registerAt c c.regMap[r] = some r.val := by
  have hs : registersAt c c.regMap[r] = [0, 1, 2, 3, 4, 5].filter (fun q : Fin 6 => decide (q = r)) := by
    unfold registersAt
    congr 1
    funext q
    exact decide_eq_decide.mpr ⟨h q, fun e => by rw [e]⟩
  have hf : ∀ r : Fin 6, ([0, 1, 2, 3, 4, 5] : List (Fin 6)).filter (fun q => decide (q = r)) = [r] := by decide
  rw [registerAt, hs, hf]

/-- A register is what a bus address selects only where it sits there and is the only one. -/
theorem registerAt_some {c : Config} {addr n : Nat} (h : registerAt c addr = some n) :
    ∃ r : Fin 6, n = r.val ∧ ∀ q : Fin 6, c.regMap[q] = addr ↔ q = r := by
  unfold registerAt at h
  split at h
  · rename_i r hr
    injection h with h
    refine ⟨r, h.symm, fun q => ?_⟩
    have hm : q ∈ registersAt c addr ↔ c.regMap[q] = addr := by
      have hq : ∀ q : Fin 6, q ∈ ([0, 1, 2, 3, 4, 5] : List (Fin 6)) := by decide
      simp [registersAt, hq q]
    rw [← hm, hr, List.mem_singleton]
  · cases h

/-- Everything a step can do when it answers a next state: wait, run a decoded instruction, or one of the two CTRL accesses that
are no row of the table. -/
theorem step_cases {s t : State} (h : step s = .next t) :
    (fetch s = none ∧ t = s.waiting) ∨
    (∃ c u i, fetch s = some (c, u) ∧ decode c = .op i ∧ exec i u = .next t) ∨
    (∃ c u, fetch s = some (c, u) ∧ decode c = .ctrlNone ∧ t = u) ∨
    (∃ c u, fetch s = some (c, u) ∧ decode c = .ctrlRead ∧ t = u.setOut (.ctrl 0)) := by
  unfold step at h
  split at h
  · injection h with h
    exact .inl ⟨‹_›, h.symm⟩
  · split at h
    · exact .inr (.inl ⟨_, _, _, ‹_›, ‹_›, h⟩)
    · injection h with h
      exact .inr (.inr (.inl ⟨_, _, ‹_›, ‹_›, h.symm⟩))
    · injection h with h
      exact .inr (.inr (.inr ⟨_, _, ‹_›, ‹_›, h.symm⟩))
    · cases h

/-- With no host move pending, a busy core runs what its phase and opidx select. -/
theorem fetch_core {s : State} (hh : s.host = []) (hb : busy s.phase = true) :
    fetch s = some (.sequencer s.phase s.opidx, s) := by
  simp [fetch, coreFetch, hh, hb]

end Sys2Proof.Machine
end

