-- ==== Sys2Proof/Laws/PerInstr.lean ====
section
/-! SUPPORT. The per-instruction family TableRow: each instruction's code has the format and the fixed bits of its row of
spec/opcode_table.json (30_encoding.md R67, R68). -/

namespace Sys2Proof.Laws.TableRow

open Sys2Proof

/-- R67: the four formats of the table. -/
inductive Format where
  | host | seq | step | func
deriving DecidableEq, Repr

/-- The format a code belongs to. -/
def formatOf : Code → Format
  | .access _ => .host
  | .unmapped _ => .host
  | .resetInput => .host
  | .sequencer .step _ => .step
  | .sequencer _ _ => .seq
  | .startInit => .seq
  | .func _ _ _ _ => .func
  | .rom _ => .func
  | .padder => .func

/-- The number the table's match and mask are about: a CTRL value, a register number, an opidx, a round number. -/
def bitsOf : Code → Option Nat
  | .access (.write 0 v) => some v
  | .access (.write r _) => some r
  | .access (.read r _) => some r
  | .sequencer .step idx => some idx.toNat
  | .func fn _ _ _ => some fn.toNat
  | _ => none

/-- The row of an instruction: its format, its match and its mask, where the table gives it numbers. -/
structure Row where
  format : Format
  bits : Option (Nat × Nat)

/-- The table, row by row. -/
def row : Instr → Row
  | .reset => ⟨.host, some (0x2, 0x2)⟩
  | .start => ⟨.host, some (0x1, 0x3)⟩
  | .rdStatus => ⟨.host, some (0x1, 0x7)⟩
  | .rdErrcode => ⟨.host, some (0x2, 0x7)⟩
  | .rdLen => ⟨.host, some (0x3, 0x7)⟩
  | .wrLen _ => ⟨.host, some (0x3, 0x7)⟩
  | .rdDigest _ => ⟨.host, some (0x4, 0x7)⟩
  | .rdHex _ => ⟨.host, some (0x5, 0x7)⟩
  | .wrMsg _ _ => ⟨.host, none⟩
  | .init => ⟨.seq, none⟩
  | .load => ⟨.seq, none⟩
  | .save => ⟨.seq, none⟩
  | .op1 => ⟨.step, some (0x00, 0x3F)⟩
  | .op2 => ⟨.step, some (0x01, 0x3F)⟩
  | .op3 => ⟨.step, some (0x02, 0x3F)⟩
  | .op4 => ⟨.step, some (0x03, 0x3F)⟩
  | .op5 => ⟨.step, some (0x04, 0x3F)⟩
  | .op6 => ⟨.step, some (0x05, 0x3F)⟩
  | .op7 => ⟨.step, some (0x06, 0x3F)⟩
  | .op8 => ⟨.step, some (0x07, 0x3F)⟩
  | .op9 => ⟨.step, some (0x08, 0x3F)⟩
  | .op10 => ⟨.step, some (0x09, 0x3F)⟩
  | .op11 => ⟨.step, some (0x0A, 0x3F)⟩
  | .op12 => ⟨.step, some (0x0B, 0x3F)⟩
  | .op13 => ⟨.step, some (0x0C, 0x3F)⟩
  | .op14 => ⟨.step, some (0x0D, 0x3F)⟩
  | .op15 => ⟨.step, some (0x0E, 0x3F)⟩
  | .op16 => ⟨.step, some (0x0F, 0x3F)⟩
  | .op17 => ⟨.step, some (0x10, 0x3F)⟩
  | .op18 => ⟨.step, some (0x11, 0x3F)⟩
  | .op19 => ⟨.step, some (0x12, 0x3F)⟩
  | .op20 => ⟨.step, some (0x13, 0x3F)⟩
  | .op21 => ⟨.step, some (0x14, 0x3F)⟩
  | .op22 => ⟨.step, some (0x15, 0x3F)⟩
  | .op23 => ⟨.step, some (0x16, 0x3F)⟩
  | .op24 => ⟨.step, some (0x17, 0x3F)⟩
  | .op25 => ⟨.step, some (0x18, 0x3F)⟩
  | .op26 => ⟨.step, some (0x19, 0x3F)⟩
  | .op27 => ⟨.step, some (0x1A, 0x3F)⟩
  | .op28 => ⟨.step, some (0x1B, 0x3F)⟩
  | .op29 => ⟨.step, some (0x1C, 0x3F)⟩
  | .op30 => ⟨.step, some (0x1D, 0x3F)⟩
  | .op31 => ⟨.step, some (0x1E, 0x3F)⟩
  | .op32 => ⟨.step, some (0x1F, 0x3F)⟩
  | .op33 => ⟨.step, some (0x20, 0x3F)⟩
  | .op34 => ⟨.step, some (0x21, 0x3F)⟩
  | .op35 => ⟨.step, some (0x22, 0x3F)⟩
  | .op36 => ⟨.step, some (0x23, 0x3F)⟩
  | .op37 => ⟨.step, some (0x24, 0x3F)⟩
  | .op38 => ⟨.step, some (0x25, 0x3F)⟩
  | .op39 => ⟨.step, some (0x26, 0x3F)⟩
  | .op40 => ⟨.step, some (0x27, 0x3F)⟩
  | .op41 => ⟨.step, some (0x28, 0x3F)⟩
  | .op42 => ⟨.step, some (0x29, 0x3F)⟩
  | .op43 => ⟨.step, some (0x2A, 0x3F)⟩
  | .op44 => ⟨.step, some (0x2B, 0x3F)⟩
  | .op45 => ⟨.step, some (0x2C, 0x3F)⟩
  | .op46 => ⟨.step, some (0x2D, 0x3F)⟩
  | .op47 => ⟨.step, some (0x2E, 0x3F)⟩
  | .op48 => ⟨.step, some (0x2F, 0x3F)⟩
  | .op49 => ⟨.step, some (0x30, 0x3F)⟩
  | .op50 => ⟨.step, some (0x31, 0x3F)⟩
  | .op51 => ⟨.step, some (0x32, 0x3F)⟩
  | .op52 => ⟨.step, some (0x33, 0x3F)⟩
  | .op53 => ⟨.step, some (0x34, 0x3F)⟩
  | .op54 => ⟨.step, some (0x35, 0x3F)⟩
  | .op55 => ⟨.step, some (0x36, 0x3F)⟩
  | .op56 => ⟨.step, some (0x37, 0x3F)⟩
  | .op57 => ⟨.step, some (0x38, 0x3F)⟩
  | .op58 => ⟨.step, some (0x39, 0x3F)⟩
  | .op59 => ⟨.step, some (0x3A, 0x3F)⟩
  | .op60 => ⟨.step, some (0x3B, 0x3F)⟩
  | .op61 => ⟨.step, some (0x3C, 0x3F)⟩
  | .op62 => ⟨.step, some (0x3D, 0x3F)⟩
  | .op63 => ⟨.step, some (0x3E, 0x3F)⟩
  | .op64 => ⟨.step, some (0x3F, 0x3F)⟩
  | .feed => ⟨.seq, none⟩
  | .fmt => ⟨.seq, none⟩
  | .pad => ⟨.func, none⟩
  | .fnF _ _ _ => ⟨.func, some (0x0, 0x3)⟩
  | .fnG _ _ _ => ⟨.func, some (0x1, 0x3)⟩
  | .fnH _ _ _ => ⟨.func, some (0x2, 0x3)⟩
  | .fnI _ _ _ => ⟨.func, some (0x3, 0x3)⟩
  | .trom _ => ⟨.func, none⟩

/-- The code has the row's format, and under the row's mask it reads as the row's match. -/
def Statement (i : Instr) : Prop :=
  formatOf (encode i) = (row i).format ∧
  (row i).bits.bind (fun m => (bitsOf (encode i)).map (· &&& m.2)) = (row i).bits.map (·.1)

theorem reset : Statement .reset := ⟨rfl, rfl⟩
theorem start : Statement .start := ⟨rfl, rfl⟩
theorem rdStatus : Statement .rdStatus := ⟨rfl, rfl⟩
theorem rdErrcode : Statement .rdErrcode := ⟨rfl, rfl⟩
theorem rdLen : Statement .rdLen := ⟨rfl, rfl⟩
theorem wrLen (v : Nat) : Statement (.wrLen v) := ⟨rfl, rfl⟩
theorem rdDigest (m : Nat) : Statement (.rdDigest m) := ⟨rfl, rfl⟩
theorem rdHex (q : Nat) : Statement (.rdHex q) := ⟨rfl, rfl⟩
theorem wrMsg (p : Nat) (b : Byte) : Statement (.wrMsg p b) := ⟨rfl, rfl⟩
theorem init : Statement .init := ⟨rfl, rfl⟩
theorem load : Statement .load := ⟨rfl, rfl⟩
theorem save : Statement .save := ⟨rfl, rfl⟩
theorem op1 : Statement .op1 := ⟨rfl, rfl⟩
theorem op2 : Statement .op2 := ⟨rfl, rfl⟩
theorem op3 : Statement .op3 := ⟨rfl, rfl⟩
theorem op4 : Statement .op4 := ⟨rfl, rfl⟩
theorem op5 : Statement .op5 := ⟨rfl, rfl⟩
theorem op6 : Statement .op6 := ⟨rfl, rfl⟩
theorem op7 : Statement .op7 := ⟨rfl, rfl⟩
theorem op8 : Statement .op8 := ⟨rfl, rfl⟩
theorem op9 : Statement .op9 := ⟨rfl, rfl⟩
theorem op10 : Statement .op10 := ⟨rfl, rfl⟩
theorem op11 : Statement .op11 := ⟨rfl, rfl⟩
theorem op12 : Statement .op12 := ⟨rfl, rfl⟩
theorem op13 : Statement .op13 := ⟨rfl, rfl⟩
theorem op14 : Statement .op14 := ⟨rfl, rfl⟩
theorem op15 : Statement .op15 := ⟨rfl, rfl⟩
theorem op16 : Statement .op16 := ⟨rfl, rfl⟩
theorem op17 : Statement .op17 := ⟨rfl, rfl⟩
theorem op18 : Statement .op18 := ⟨rfl, rfl⟩
theorem op19 : Statement .op19 := ⟨rfl, rfl⟩
theorem op20 : Statement .op20 := ⟨rfl, rfl⟩
theorem op21 : Statement .op21 := ⟨rfl, rfl⟩
theorem op22 : Statement .op22 := ⟨rfl, rfl⟩
theorem op23 : Statement .op23 := ⟨rfl, rfl⟩
theorem op24 : Statement .op24 := ⟨rfl, rfl⟩
theorem op25 : Statement .op25 := ⟨rfl, rfl⟩
theorem op26 : Statement .op26 := ⟨rfl, rfl⟩
theorem op27 : Statement .op27 := ⟨rfl, rfl⟩
theorem op28 : Statement .op28 := ⟨rfl, rfl⟩
theorem op29 : Statement .op29 := ⟨rfl, rfl⟩
theorem op30 : Statement .op30 := ⟨rfl, rfl⟩
theorem op31 : Statement .op31 := ⟨rfl, rfl⟩
theorem op32 : Statement .op32 := ⟨rfl, rfl⟩
theorem op33 : Statement .op33 := ⟨rfl, rfl⟩
theorem op34 : Statement .op34 := ⟨rfl, rfl⟩
theorem op35 : Statement .op35 := ⟨rfl, rfl⟩
theorem op36 : Statement .op36 := ⟨rfl, rfl⟩
theorem op37 : Statement .op37 := ⟨rfl, rfl⟩
theorem op38 : Statement .op38 := ⟨rfl, rfl⟩
theorem op39 : Statement .op39 := ⟨rfl, rfl⟩
theorem op40 : Statement .op40 := ⟨rfl, rfl⟩
theorem op41 : Statement .op41 := ⟨rfl, rfl⟩
theorem op42 : Statement .op42 := ⟨rfl, rfl⟩
theorem op43 : Statement .op43 := ⟨rfl, rfl⟩
theorem op44 : Statement .op44 := ⟨rfl, rfl⟩
theorem op45 : Statement .op45 := ⟨rfl, rfl⟩
theorem op46 : Statement .op46 := ⟨rfl, rfl⟩
theorem op47 : Statement .op47 := ⟨rfl, rfl⟩
theorem op48 : Statement .op48 := ⟨rfl, rfl⟩
theorem op49 : Statement .op49 := ⟨rfl, rfl⟩
theorem op50 : Statement .op50 := ⟨rfl, rfl⟩
theorem op51 : Statement .op51 := ⟨rfl, rfl⟩
theorem op52 : Statement .op52 := ⟨rfl, rfl⟩
theorem op53 : Statement .op53 := ⟨rfl, rfl⟩
theorem op54 : Statement .op54 := ⟨rfl, rfl⟩
theorem op55 : Statement .op55 := ⟨rfl, rfl⟩
theorem op56 : Statement .op56 := ⟨rfl, rfl⟩
theorem op57 : Statement .op57 := ⟨rfl, rfl⟩
theorem op58 : Statement .op58 := ⟨rfl, rfl⟩
theorem op59 : Statement .op59 := ⟨rfl, rfl⟩
theorem op60 : Statement .op60 := ⟨rfl, rfl⟩
theorem op61 : Statement .op61 := ⟨rfl, rfl⟩
theorem op62 : Statement .op62 := ⟨rfl, rfl⟩
theorem op63 : Statement .op63 := ⟨rfl, rfl⟩
theorem op64 : Statement .op64 := ⟨rfl, rfl⟩
theorem feed : Statement .feed := ⟨rfl, rfl⟩
theorem fmt : Statement .fmt := ⟨rfl, rfl⟩
theorem pad : Statement .pad := ⟨rfl, rfl⟩
theorem fnF (x : Word) (y : Word) (z : Word) : Statement (.fnF x y z) := ⟨rfl, rfl⟩
theorem fnG (x : Word) (y : Word) (z : Word) : Statement (.fnG x y z) := ⟨rfl, rfl⟩
theorem fnH (x : Word) (y : Word) (z : Word) : Statement (.fnH x y z) := ⟨rfl, rfl⟩
theorem fnI (x : Word) (y : Word) (z : Word) : Statement (.fnI x y z) := ⟨rfl, rfl⟩
theorem trom (i : Nat) : Statement (.trom i) := ⟨rfl, rfl⟩

end Sys2Proof.Laws.TableRow
end

