-- ==== Sys2Proof/Laws/Sine.lean ====
section
/-! SUPPORT. Sines of the first 64 naturals, in fixed point: the arithmetic that ties a table entry to floor(2^32 × |sin(i)|)
(42_constant_table.md R95). Nothing here is about the machine. -/

namespace Sys2Proof.Laws

/-- The scale of the fixed-point approximations, 2^160. -/
def sineScale : Int := 2 ^ 160

/-- cos 1 in fixed point. -/
def cosOne : Int := 789652704679948512850133577617776009509005113993

/-- sin 1 in fixed point. -/
def sinOne : Int := 1229811222063188079455875033478504257159032017171

/-- cos n and sin n in fixed point, by the addition formulas. -/
def cosSinApprox (n : Nat) : Int × Int :=
  match n with
  | 0 => (sineScale, 0)
  | n + 1 =>
    (((cosSinApprox n).1 * cosOne - (cosSinApprox n).2 * sinOne) / sineScale,
     ((cosSinApprox n).2 * cosOne + (cosSinApprox n).1 * sinOne) / sineScale)

/-- The exponential series at i, by real and imaginary parts. -/
theorem cosSin_partial (n : Nat) :
    ∑ m ∈ Finset.range (4 * n), (Complex.I ^ m / (m.factorial : ℂ)) =
      ((∑ j ∈ Finset.range n, (1 / ((4 * j).factorial : ℝ) - 1 / ((4 * j + 2).factorial : ℝ)) : ℝ) : ℂ) +
      ((∑ j ∈ Finset.range n, (1 / ((4 * j + 1).factorial : ℝ) - 1 / ((4 * j + 3).factorial : ℝ)) : ℝ) : ℂ) * Complex.I := by
  induction n with
  | zero => simp
  | succ n ih =>
    have h0 : Complex.I ^ (4 * n) = 1 := by rw [pow_mul, Complex.I_pow_four, one_pow]
    have h1 : Complex.I ^ (4 * n + 1) = Complex.I := by rw [pow_succ, h0, one_mul]
    have h2 : Complex.I ^ (4 * n + 2) = -1 := by rw [pow_succ, h1, Complex.I_mul_I]
    have h3 : Complex.I ^ (4 * n + 3) = -Complex.I := by rw [pow_succ, h2]; ring
    rw [show 4 * (n + 1) = 4 * n + 1 + 1 + 1 + 1 by ring]
    rw [Finset.sum_range_succ, Finset.sum_range_succ, Finset.sum_range_succ, Finset.sum_range_succ, ih,
      Finset.sum_range_succ, Finset.sum_range_succ, h0, h1, h2, h3]
    push_cast
    ring

/-- cos 1 and sin 1 against their partial series, with the remainder's bound. -/
theorem cos_sin_one_close (n : Nat) (hn : 0 < n) :
    |Real.cos 1 - ∑ j ∈ Finset.range n, (1 / ((4 * j).factorial : ℝ) - 1 / ((4 * j + 2).factorial : ℝ))| ≤ (4 * n + 1) / ((4 * n).factorial * (4 * n)) ∧
    |Real.sin 1 - ∑ j ∈ Finset.range n, (1 / ((4 * j + 1).factorial : ℝ) - 1 / ((4 * j + 3).factorial : ℝ))| ≤ (4 * n + 1) / ((4 * n).factorial * (4 * n)) := by
  have h := Complex.exp_bound (x := Complex.I) (by simp) (n := 4 * n) (by omega)
  rw [cosSin_partial] at h
  set a := ∑ j ∈ Finset.range n, (1 / ((4 * j).factorial : ℝ) - 1 / ((4 * j + 2).factorial : ℝ))
  set b := ∑ j ∈ Finset.range n, (1 / ((4 * j + 1).factorial : ℝ) - 1 / ((4 * j + 3).factorial : ℝ))
  have he : Complex.exp Complex.I = (Real.cos 1 : ℂ) + (Real.sin 1 : ℂ) * Complex.I := by
    have := Complex.exp_mul_I 1
    rw [one_mul] at this
    rw [this]; simp
  rw [he] at h
  have hb : ‖Complex.I‖ ^ (4 * n) * (((4 * n).succ : ℝ) * ((((4 * n).factorial * (4 * n) : ℕ) : ℝ))⁻¹) = (4 * n + 1) / ((4 * n).factorial * (4 * n)) := by
    simp; ring
  have h : ‖(Real.cos 1 : ℂ) + (Real.sin 1 : ℂ) * Complex.I - (a + b * Complex.I)‖ ≤ (4 * n + 1) / ((4 * n).factorial * (4 * n)) := by
    refine h.trans (le_of_eq ?_)
    rw [← hb]; push_cast; rfl
  have e : (Real.cos 1 : ℂ) + (Real.sin 1 : ℂ) * Complex.I - (a + b * Complex.I) = ⟨Real.cos 1 - a, Real.sin 1 - b⟩ := by
    apply Complex.ext <;> simp [-Complex.ofReal_cos, -Complex.ofReal_sin]
  rw [e] at h
  exact ⟨(Complex.abs_re_le_norm _).trans h, (Complex.abs_im_le_norm _).trans h⟩


theorem cosOne_close : |(sineScale : ℝ) * Real.cos 1 - cosOne| ≤ 1 ∧ |(sineScale : ℝ) * Real.sin 1 - sinOne| ≤ 1 := by
  obtain ⟨hc, hs⟩ := cos_sin_one_close 12 (by norm_num)
  simp only [Finset.sum_range_succ, Finset.sum_range_zero, Nat.factorial] at hc hs
  norm_num at hc hs
  rw [abs_le] at hc hs
  obtain ⟨c1, c2⟩ := hc
  obtain ⟨s1, s2⟩ := hs
  simp only [sineScale, cosOne, sinOne]
  push_cast
  refine ⟨abs_le.mpr ⟨?_, ?_⟩, abs_le.mpr ⟨?_, ?_⟩⟩ <;> linarith

/-- One step of the recurrence: the error at most doubles, plus 3. -/
theorem fixed_mul_close {S C C1 D D1 c c1 d d1 : ℝ} {E : ℝ} (q : Int) (hS : 0 < S) (hC : |C| ≤ S) (hD : |D| ≤ S) (hc1 : |c1| ≤ S)
    (hd1 : |d1| ≤ S) (h1 : |C - c| ≤ E) (h2 : |D - d| ≤ E) (h3 : |C1 - c1| ≤ 1) (h4 : |D1 - d1| ≤ 1)
    (hq1 : (q : ℝ) ≤ (c * c1 + d * d1) / S) (hq2 : (c * c1 + d * d1) / S < q + 1) :
    |(C * C1 + D * D1) / S - q| ≤ 2 * E + 3 := by
  have hE : 0 ≤ E := (abs_nonneg _).trans h1
  have k1 : |C * C1 - c * c1| ≤ S + S * E := by
    have : C * C1 - c * c1 = C * (C1 - c1) + c1 * (C - c) := by ring
    rw [this]
    refine (abs_add_le _ _).trans ?_
    rw [abs_mul, abs_mul]
    have a1 := mul_le_mul hC h3 (abs_nonneg _) hS.le
    have a2 := mul_le_mul hc1 h1 (abs_nonneg _) hS.le
    linarith
  have k2 : |D * D1 - d * d1| ≤ S + S * E := by
    have : D * D1 - d * d1 = D * (D1 - d1) + d1 * (D - d) := by ring
    rw [this]
    refine (abs_add_le _ _).trans ?_
    rw [abs_mul, abs_mul]
    have a1 := mul_le_mul hD h4 (abs_nonneg _) hS.le
    have a2 := mul_le_mul hd1 h2 (abs_nonneg _) hS.le
    linarith
  have k3 : |(C * C1 + D * D1) / S - (c * c1 + d * d1) / S| ≤ 2 + 2 * E := by
    rw [← sub_div, abs_div, abs_of_pos hS, div_le_iff₀ hS]
    have : C * C1 + D * D1 - (c * c1 + d * d1) = (C * C1 - c * c1) + (D * D1 - d * d1) := by ring
    rw [this]
    refine (abs_add_le _ _).trans ?_
    nlinarith
  rw [abs_le] at k3 ⊢
  constructor <;> linarith [k3.1, k3.2]

theorem int_div_close (a : Int) : (((a / sineScale : Int) : ℝ) ≤ (a : ℝ) / sineScale) ∧ (a : ℝ) / sineScale < ((a / sineScale : Int) : ℝ) + 1 := by
  have hS : (0 : ℝ) < (sineScale : ℝ) := by norm_num [sineScale]
  have hS' : (0 : Int) < sineScale := by norm_num [sineScale]
  have h1 := Int.ediv_mul_le a hS'.ne'
  have h2 := Int.lt_ediv_add_one_mul_self a hS'
  rw [le_div_iff₀ hS, div_lt_iff₀ hS]
  exact ⟨by exact_mod_cast h1, by exact_mod_cast h2⟩

/-- The approximations are close: their error is below 3 * 2^n units. -/
theorem cosSinApprox_close (n : Nat) :
    |(sineScale : ℝ) * Real.cos n - ((cosSinApprox n).1 : ℝ)| ≤ 3 * 2 ^ n - 3 ∧
    |(sineScale : ℝ) * Real.sin n - ((cosSinApprox n).2 : ℝ)| ≤ 3 * 2 ^ n - 3 := by
  have hS : (0 : ℝ) < (sineScale : ℝ) := by norm_num [sineScale]
  have hS0 := hS.ne'
  obtain ⟨hc, hs⟩ := cosOne_close
  have bC : ∀ x, |(sineScale : ℝ) * Real.cos x| ≤ sineScale := fun x => by
    rw [abs_mul, abs_of_pos hS]; exact mul_le_of_le_one_right hS.le (Real.abs_cos_le_one x)
  have bS : ∀ x, |(sineScale : ℝ) * Real.sin x| ≤ sineScale := fun x => by
    rw [abs_mul, abs_of_pos hS]; exact mul_le_of_le_one_right hS.le (Real.abs_sin_le_one x)
  have bc1 : |(cosOne : ℝ)| ≤ sineScale := by norm_num [cosOne, sineScale]
  have bs1 : |(sinOne : ℝ)| ≤ sineScale := by norm_num [sinOne, sineScale]
  induction n with
  | zero => simp [cosSinApprox]
  | succ n ih =>
    obtain ⟨i1, i2⟩ := ih
    push_cast
    rw [Real.cos_add, Real.sin_add]
    have e : ((2 : ℝ) ^ (n + 1)) = 2 * 2 ^ n := by ring
    constructor
    · have hq := int_div_close ((cosSinApprox n).1 * cosOne - (cosSinApprox n).2 * sinOne)
      push_cast at hq
      have := fixed_mul_close (S := sineScale) (C := sineScale * Real.cos n) (C1 := sineScale * Real.cos 1) (D := sineScale * Real.sin n)
        (D1 := -(sineScale * Real.sin 1)) (c := (cosSinApprox n).1) (c1 := cosOne) (d := (cosSinApprox n).2) (d1 := -sinOne)
        (((cosSinApprox n).1 * cosOne - (cosSinApprox n).2 * sinOne) / sineScale) hS (bC n) (bS n) bc1 (by rwa [abs_neg]) i1 i2 hc
        (by rw [← neg_add', abs_neg, ← sub_eq_add_neg]; exact hs) (by rw [mul_neg, ← sub_eq_add_neg]; exact hq.1)
        (by rw [mul_neg, ← sub_eq_add_neg]; exact hq.2)
      rw [show (sineScale : ℝ) * (Real.cos n * Real.cos 1 - Real.sin n * Real.sin 1) =
        (sineScale * Real.cos n * (sineScale * Real.cos 1) + sineScale * Real.sin n * -(sineScale * Real.sin 1)) / sineScale by
          field_simp; ring]
      refine this.trans ?_
      rw [e]; linarith
    · have hq := int_div_close ((cosSinApprox n).2 * cosOne + (cosSinApprox n).1 * sinOne)
      push_cast at hq
      have := fixed_mul_close (S := sineScale) (C := sineScale * Real.sin n) (C1 := sineScale * Real.cos 1) (D := sineScale * Real.cos n)
        (D1 := sineScale * Real.sin 1) (c := (cosSinApprox n).2) (c1 := cosOne) (d := (cosSinApprox n).1) (d1 := sinOne)
        (((cosSinApprox n).2 * cosOne + (cosSinApprox n).1 * sinOne) / sineScale) hS (bS n) (bC n) bc1 bs1 i2 i1 hc hs hq.1 hq.2
      rw [show (sineScale : ℝ) * (Real.sin n * Real.cos 1 + Real.cos n * Real.sin 1) =
        (sineScale * Real.sin n * (sineScale * Real.cos 1) + sineScale * Real.cos n * (sineScale * Real.sin 1)) / sineScale by
          field_simp]
      refine this.trans ?_
      rw [e]; linarith

/-- The fixed-point values decide every table entry. -/
theorem approx_decides (t : Nat) (n : Nat) (hn : n ≤ 64) (h1 : (t : Int) * sineScale ≤ 2 ^ 32 * (|(cosSinApprox n).2| - 2 ^ 66))
    (h2 : 2 ^ 32 * (|(cosSinApprox n).2| + 2 ^ 66) < ((t : Int) + 1) * sineScale) : t = ⌊2 ^ 32 * |Real.sin n|⌋₊ := by
  have hS : (0 : ℝ) < (sineScale : ℝ) := by norm_num [sineScale]
  have hc := (cosSinApprox_close n).2
  have hp : (2 : ℝ) ^ n ≤ 2 ^ 64 := pow_le_pow_right₀ (by norm_num) hn
  have hk : |(|(sineScale : ℝ) * Real.sin n| - |((cosSinApprox n).2 : ℝ)|)| ≤ 2 ^ 66 := by
    refine (abs_abs_sub_abs_le_abs_sub _ _).trans (hc.trans ?_)
    norm_num at hp ⊢; linarith
  rw [abs_mul, abs_of_pos hS, abs_le] at hk
  have h1 : (t : ℝ) * sineScale ≤ 2 ^ 32 * (|((cosSinApprox n).2 : ℝ)| - 2 ^ 66) := by exact_mod_cast h1
  have h2 : 2 ^ 32 * (|((cosSinApprox n).2 : ℝ)| + 2 ^ 66) < ((t : ℝ) + 1) * sineScale := by exact_mod_cast h2
  symm
  rw [Nat.floor_eq_iff (by positivity)]
  constructor
  · rw [← mul_le_mul_iff_left₀ hS]; linarith [hk.1]
  · rw [← mul_lt_mul_iff_left₀ hS]; linarith [hk.2]

end Sys2Proof.Laws
end

