-- ==== Sys2Proof/Tests/Slice0.lean ====
section
/-! SUPPORT. Tests. Expected values are the spec's own (95_test_vectors.md, the worked examples of the rules), never the model's. The
second half holds, for each statement with hypotheses, a concrete state and operands that meet them. -/

namespace Sys2Proof.Tests

open Sys2Proof Sys2Proof.Machine Sys2Proof.Claims

/-- The next state, if the outcome is one. -/
def next? (o : Host.Outcome State Fault Refusal) : Option State :=
  match o with
  | .next t => some t
  | .fault _ => none
  | .refused _ => none

/-- Why an outcome is refused, if it is. -/
def refusal? (o : Host.Outcome State Fault Refusal) : Option Refusal :=
  match o with
  | .next _ => none
  | .fault _ => none
  | .refused r => some r

/-- The message "abc" of V2 and PG2. -/
def abc : Memory := [(0, 0x61), (1, 0x62), (2, 0x63)]

/-- The machine holding "abc", in phase p. -/
def inPhase (p : Phase) : State := { State.reset with phase := p, len := 3, msg := abc }

/-- In phase STEP at an opidx, with accumulators q and all message words v. -/
def atOp (i : BitVec 6) (q : Quad) (v : Word) : State :=
  { State.reset with phase := .step, opidx := i, acc := q, x := Vector.replicate 16 v }

/-- With a capacity of 64 bytes (PG5). -/
def capped (p : Phase) (l : Nat) : State := { State.reset with cfg := { Config.atReset with msgCap := some 64 }, phase := p, len := l }

/-! ### WellFormed -/

theorem test_wf_rdDigest : (Instr.rdDigest 16).wellFormed = false ∧ (Instr.rdDigest 15).wellFormed = true := by decide
theorem test_wf_rdHex : (Instr.rdHex 32).wellFormed = false ∧ (Instr.rdHex 31).wellFormed = true := by decide
theorem test_wf_trom : (Instr.trom 0).wellFormed = false ∧ (Instr.trom 65).wellFormed = false ∧ (Instr.trom 64).wellFormed = true := by
  decide

/-! ### Decoding: each constructor's code written out from R65 (rr_jjjj), R67 and R68 -/

theorem test_decode_host :
    decode (.access (.write 0 0b10)) = .op .reset ∧ decode .resetInput = .op .reset ∧ decode (.access (.write 0 0b01)) = .op .start ∧
    decode (.access (.read 1 0)) = .op .rdStatus ∧ decode (.access (.read 2 0)) = .op .rdErrcode ∧
    decode (.access (.read 3 0)) = .op .rdLen ∧ decode (.access (.write 3 65)) = .op (.wrLen 65) ∧
    decode (.access (.read 4 15)) = .op (.rdDigest 15) ∧ decode (.access (.read 5 31)) = .op (.rdHex 31) ∧
    decode (.access (.writeMsg 2 0x64)) = .op (.wrMsg 2 0x64) := by decide

theorem test_decode_ctrl_both_bits : decode (.access (.write 0 0b11)) = .op .reset ∧ decode (.access (.write 0 0b00)) = .ctrlNone := by
  decide

theorem test_decode_seq :
    decode .startInit = .op .init ∧ decode (.sequencer .load 0) = .op .load ∧ decode (.sequencer .save 0) = .op .save ∧
    decode (.sequencer .feed 0b111111) = .op .feed ∧ decode (.sequencer .fmt 0b111111) = .op .fmt ∧
    decode (.sequencer .done 0) = .reject (.phaseHasNoStep .done) := by decide

theorem test_decode_round1 :
    decodeOpidx 0b000000 = .op1 ∧ decodeOpidx 0b000001 = .op2 ∧ decodeOpidx 0b000010 = .op3 ∧ decodeOpidx 0b000011 = .op4 ∧
    decodeOpidx 0b000100 = .op5 ∧ decodeOpidx 0b000101 = .op6 ∧ decodeOpidx 0b000110 = .op7 ∧ decodeOpidx 0b000111 = .op8 ∧
    decodeOpidx 0b001000 = .op9 ∧ decodeOpidx 0b001001 = .op10 ∧ decodeOpidx 0b001010 = .op11 ∧ decodeOpidx 0b001011 = .op12 ∧
    decodeOpidx 0b001100 = .op13 ∧ decodeOpidx 0b001101 = .op14 ∧ decodeOpidx 0b001110 = .op15 ∧ decodeOpidx 0b001111 = .op16 := by
  decide

theorem test_decode_round2 :
    decodeOpidx 0b010000 = .op17 ∧ decodeOpidx 0b010001 = .op18 ∧ decodeOpidx 0b010010 = .op19 ∧ decodeOpidx 0b010011 = .op20 ∧
    decodeOpidx 0b010100 = .op21 ∧ decodeOpidx 0b010101 = .op22 ∧ decodeOpidx 0b010110 = .op23 ∧ decodeOpidx 0b010111 = .op24 ∧
    decodeOpidx 0b011000 = .op25 ∧ decodeOpidx 0b011001 = .op26 ∧ decodeOpidx 0b011010 = .op27 ∧ decodeOpidx 0b011011 = .op28 ∧
    decodeOpidx 0b011100 = .op29 ∧ decodeOpidx 0b011101 = .op30 ∧ decodeOpidx 0b011110 = .op31 ∧ decodeOpidx 0b011111 = .op32 := by
  decide

theorem test_decode_round3 :
    decodeOpidx 0b100000 = .op33 ∧ decodeOpidx 0b100001 = .op34 ∧ decodeOpidx 0b100010 = .op35 ∧ decodeOpidx 0b100011 = .op36 ∧
    decodeOpidx 0b100100 = .op37 ∧ decodeOpidx 0b100101 = .op38 ∧ decodeOpidx 0b100110 = .op39 ∧ decodeOpidx 0b100111 = .op40 ∧
    decodeOpidx 0b101000 = .op41 ∧ decodeOpidx 0b101001 = .op42 ∧ decodeOpidx 0b101010 = .op43 ∧ decodeOpidx 0b101011 = .op44 ∧
    decodeOpidx 0b101100 = .op45 ∧ decodeOpidx 0b101101 = .op46 ∧ decodeOpidx 0b101110 = .op47 ∧ decodeOpidx 0b101111 = .op48 := by
  decide

theorem test_decode_round4 :
    decodeOpidx 0b110000 = .op49 ∧ decodeOpidx 0b110001 = .op50 ∧ decodeOpidx 0b110010 = .op51 ∧ decodeOpidx 0b110011 = .op52 ∧
    decodeOpidx 0b110100 = .op53 ∧ decodeOpidx 0b110101 = .op54 ∧ decodeOpidx 0b110110 = .op55 ∧ decodeOpidx 0b110111 = .op56 ∧
    decodeOpidx 0b111000 = .op57 ∧ decodeOpidx 0b111001 = .op58 ∧ decodeOpidx 0b111010 = .op59 ∧ decodeOpidx 0b111011 = .op60 ∧
    decodeOpidx 0b111100 = .op61 ∧ decodeOpidx 0b111101 = .op62 ∧ decodeOpidx 0b111110 = .op63 ∧ decodeOpidx 0b111111 = .op64 := by
  decide

theorem test_decode_func :
    decode (.func 0b00 1 2 3) = .op (.fnF 1 2 3) ∧ decode (.func 0b01 1 2 3) = .op (.fnG 1 2 3) ∧
    decode (.func 0b10 1 2 3) = .op (.fnH 1 2 3) ∧ decode (.func 0b11 1 2 3) = .op (.fnI 1 2 3) ∧
    decode (.rom 1) = .op (.trom 1) ∧ decode .padder = .op .pad ∧ decode (.rom 0) = .reject (.noSuchConstant 0) := by decide

theorem test_table_word : decodeTableWord 8 0x3F = some .op64 ∧ decodeTableWord 8 0x10 = some .op17 ∧ decodeTableWord 8 0x40 = none := by
  decide

/-! ### Primitives (95, table 3.3) -/

theorem test_add32 : (0xFFFFFFFF : Word) + 0xFFFFFFFF + 0xFFFFFFFF + 0xFFFFFFFF = 0xFFFFFFFC ∧
    (0x67452301 : Word) + 0xEFCDAB89 = 0x5712CE8A := by decide
theorem test_rotl32 : rotl32 0x80000000 7 = 0x00000040 ∧ rotl32 0x12345678 4 = 0x23456781 ∧ rotl32 0x12345678 23 = 0x3C091A2B := by
  decide
theorem test_le32 : le32 0x61 0x62 0x63 0x80 = 0x80636261 ∧ bswap32 0xD98C1DD4 = 0xD41D8CD9 := by decide
theorem test_hexDigit : hexDigit 9 = 0x39 ∧ hexDigit 10 = 0x61 ∧ hexDigit 15 = 0x66 := by decide

/-! ### Preprocessor (95, table 3.1) -/

theorem test_blocks : blocks 55 = 1 ∧ blocks 56 = 2 ∧ blocks 119 = 2 ∧ blocks 120 = 3 ∧ blocks 1000 = 16 := by decide
theorem test_length_field : le64bytes (lengthField (2 ^ 61 + 3)) = [0x18, 0, 0, 0, 0, 0, 0, 0] ∧
    le64bytes (lengthField (2 ^ 32)) = [0, 0, 0, 0, 8, 0, 0, 0] := by decide
theorem test_pad_abc : (next? (exec .pad (inPhase .idle))).map (·.out) =
    some (some (.buffer ([0x61, 0x62, 0x63, 0x80] ++ List.replicate 52 0 ++ [0x18, 0, 0, 0, 0, 0, 0, 0]))) := by decide
theorem test_pad_56 : padMessage (List.replicate 56 0xff) =
    List.replicate 56 0xff ++ [0x80] ++ List.replicate 63 0 ++ [0xc0, 0x01, 0, 0, 0, 0, 0, 0] := by decide +kernel

/-! ### Round functions (95, table 3.2) and constants (table 3.4) -/

theorem test_fnF : (next? (exec (.fnF 0x12345678 0x9ABCDEF0 0x0FEDCBA9) State.reset)).map (·.out) = some (some (.word 0x1FFDDFF1)) := by
  decide
theorem test_fnG : (next? (exec (.fnG 0x12345678 0x9ABCDEF0 0x0FEDCBA9) State.reset)).map (·.out) = some (some (.word 0x92345678)) := by
  decide
theorem test_fnH : (next? (exec (.fnH 0x12345678 0x9ABCDEF0 0x0FEDCBA9) State.reset)).map (·.out) = some (some (.word 0x87654321)) := by
  decide
theorem test_fnI : (next? (exec (.fnI 0x12345678 0x9ABCDEF0 0x0FEDCBA9) State.reset)).map (·.out) = some (some (.word 0x688AA88E)) := by
  decide
theorem test_trom : (next? (exec (.trom 31) State.reset)).map (·.out) = some (some (.word 0x676F02D9)) ∧
    (next? (exec (.trom 64) State.reset)).map (·.out) = some (some (.word 0xEB86D391)) := by decide

/-! ### The engine (95, tables 3.5 to 3.7) -/

theorem test_load_abc : (next? (exec .load (inPhase .load))).map (fun t => (t.x, t.phase)) =
    some (#v[0x80636261, 0, 0, 0, 0, 0, 0, 0, 0, 0, 0, 0, 0, 0, 0x00000018, 0], .save) := by decide
theorem test_load_padding_block :
    (next? (exec .load { State.reset with phase := .load, len := 64, blk := 1 })).map (·.x) =
      some #v[0x00000080, 0, 0, 0, 0, 0, 0, 0, 0, 0, 0, 0, 0, 0, 0x00000200, 0] := by decide
theorem test_save : (next? (exec .save { inPhase .save with acc := iv, opidx := 63 })).map (fun t => (t.saved, t.phase, t.op)) =
    some (⟨0x67452301, 0xEFCDAB89, 0x98BADCFE, 0x10325476⟩, .step, 1) := by decide
theorem test_op1 : (next? (exec .op1 (atOp 0 ⟨0xFFFFFFFF, 0xFFFFFFFF, 0xFFFFFFFF, 0xFFFFFFFF⟩ 0xFFFFFFFF))).map (fun t => (t.acc, t.op)) =
    some (⟨0xB5523AEA, 0xFFFFFFFF, 0xFFFFFFFF, 0xFFFFFFFF⟩, 2) := by decide
theorem test_op2 : (next? (exec .op2 (atOp 1 ⟨0xA5202774, 0xEFCDAB89, 0x98BADCFE, 0x10325476⟩ 0))).map (·.acc) =
    some ⟨0xA5202774, 0xEFCDAB89, 0x98BADCFE, 0xF59592DD⟩ := by decide
theorem test_op3 : (next? (exec .op3 (atOp 2 ⟨0xA5202774, 0xEFCDAB89, 0x98BADCFE, 0xF59592DD⟩ 0))).map (·.acc) =
    some ⟨0xA5202774, 0xEFCDAB89, 0xE7F06B23, 0xF59592DD⟩ := by decide
theorem test_op17 : (next? (exec .op17 (atOp 16 ⟨0xFFFFFFFF, 0, 0xFFFFFFFF, 0⟩ 0x12345678))).map (·.acc) =
    some ⟨0x0A4F7B01, 0, 0xFFFFFFFF, 0⟩ := by decide
theorem test_op20 : (next? (exec .op20 (atOp 19 ⟨1, 2, 3, 4⟩ 0xFFFFFFFF))).map (·.acc) = some ⟨1, 0x7B0E9B6F, 3, 4⟩ := by decide
theorem test_op33 : (next? (exec .op33 (atOp 32 ⟨0x01234567, 0x89ABCDEF, 0xFEDCBA98, 0x76543210⟩ 1))).map (·.acc) =
    some ⟨0xADB80EFF, 0x89ABCDEF, 0xFEDCBA98, 0x76543210⟩ := by decide
theorem test_op48 : (next? (exec .op48 (atOp 47 ⟨0xFFFFFFFF, 0xFFFFFFFF, 0xFFFFFFFF, 0xFFFFFFFF⟩ 0))).map (·.acc) =
    some ⟨0xFFFFFFFF, 0x31E2562A, 0xFFFFFFFF, 0xFFFFFFFF⟩ := by decide
theorem test_op49 : (next? (exec .op49 (atOp 48 ⟨0x80000000, 0x80000000, 0x80000000, 0x80000000⟩ 0x80000000))).map (·.acc) =
    some ⟨0x8A4890DD, 0x80000000, 0x80000000, 0x80000000⟩ := by decide
theorem test_op64 : (next? (exec .op64 (atOp 63 ⟨0, 0xFFFFFFFF, 0, 0xFFFFFFFF⟩ 0xCAFEBABE))).map (fun t => (t.acc, t.phase, t.op)) =
    some (⟨0, 0xC9D6D0B1, 0, 0xFFFFFFFF⟩, .feed, 64) := by decide
theorem test_feed_last : (next? (exec .feed { inPhase .feed with
      acc := ⟨0x80000000, 0x7FFFFFFF, 0xFFFFFFFF, 0x00000001⟩, saved := ⟨0x80000000, 0x00000001, 0x00000001, 0xFFFFFFFF⟩ })).map
      (fun t => (t.acc, t.phase, t.blk)) =
    some (⟨0x00000000, 0x80000000, 0x00000000, 0x00000000⟩, .fmt, 0) := by decide
theorem test_feed_more : (next? (exec .feed { State.reset with phase := .feed, len := 80 })).map (fun t => (t.phase, t.blk)) =
    some (.load, 1) := by decide

/-! ### The formatter (95, table 3.8) -/

theorem test_fmt_digest :
    (next? (exec .fmt { State.reset with phase := .fmt, acc := ⟨0x0000000A, 0xB0000000, 0x00C00D00, 0x000E0F00⟩ })).map
      (fun t => (t.digest, t.phase)) =
    some (some #v[0x0a, 0, 0, 0, 0, 0, 0, 0xb0, 0, 0x0d, 0xc0, 0, 0, 0x0f, 0x0e, 0], .done) := by decide
/-- HEX of the IV is "0123456789abcdeffedcba9876543210". -/
theorem test_fmt_hex :
    (next? (exec .fmt { State.reset with phase := .fmt, acc := iv })).map (·.hex) =
    some (some #v[0x30, 0x31, 0x32, 0x33, 0x34, 0x35, 0x36, 0x37, 0x38, 0x39, 0x61, 0x62, 0x63, 0x64, 0x65, 0x66,
      0x66, 0x65, 0x64, 0x63, 0x62, 0x61, 0x39, 0x38, 0x37, 0x36, 0x35, 0x34, 0x33, 0x32, 0x31, 0x30]) := by decide

/-! ### The functional reading: V2 and V5 of 95, section 1 -/

theorem test_v2 : md5core [0x61, 0x62, 0x63] = ⟨0x98500190, 0xB04FD23C, 0x7D3F96D6, 0x727FE128⟩ := by decide +kernel
/-- Eight times "1234567890": two blocks. -/
theorem test_v5 : md5core (List.replicate 8 [0x31, 0x32, 0x33, 0x34, 0x35, 0x36, 0x37, 0x38, 0x39, 0x30]).flatten =
    ⟨0xA2F4ED57, 0x55C9E32B, 0x2EDA49AC, 0x7AB60721⟩ := by decide +kernel

/-! ### The host (95, PG4 to PG6) -/

theorem test_start_accepted : (next? (exec .start (capped .err 64))).map (fun t => (t.phase, t.errcode, t.acc, t.op)) =
    some (.load, .none, ⟨0x67452301, 0xEFCDAB89, 0x98BADCFE, 0x10325476⟩, 1) := by decide
theorem test_start_capacity : (next? (exec .start (capped .idle 65))).map (fun t => (status t.phase, errBits t.errcode, t.len, t.acc)) =
    some (0b100, 1, 65, ⟨0, 0, 0, 0⟩) := by decide
theorem test_reset_busy : (next? (exec .reset (inPhase .step))).map (fun t => (t.phase, t.op, t.len, t.msg)) =
    some (.idle, 1, 0, abc) := by decide
theorem test_rdStatus : (next? (exec .rdStatus (inPhase .step))).map (·.out) = some (some (.status 0b001)) ∧
    (next? (exec .rdStatus (inPhase .done))).map (·.out) = some (some (.status 0b010)) := by decide
theorem test_rdErrcode : (next? (exec .rdErrcode { capped .err 65 with errcode := .capacity })).map (·.out) = some (some (.errcode 1)) := by
  decide
theorem test_rdLen : (next? (exec .rdLen (capped .err 65))).map (·.out) = some (some (.len 65)) := by decide
theorem test_wrLen : (next? (exec (.wrLen 64) (capped .err 65))).map (fun t => (t.len, t.phase)) = some (64, .err) ∧
    refusal? (exec (.wrLen 5) (inPhase .step)) = some .writeWhileBusy := by decide
theorem test_wrMsg : (next? (exec (.wrMsg 2 0x64) (inPhase .done))).map (·.msg) = some [(0, 0x61), (1, 0x62), (2, 0x64)] := by decide
theorem test_wrMsg_beyond : refusal? (exec (.wrMsg 64 0) (capped .idle 0)) = some .beyondCapacity := by decide
/-- The first byte and the first character of V2's digest, "90..."; R 5 while BUSY is refused. -/
theorem test_rdDigest : (next? (exec (.rdDigest 0)
    { inPhase .done with digest := some (serialize ⟨0x98500190, 0xB04FD23C, 0x7D3F96D6, 0x727FE128⟩) })).map (·.out) =
    some (some (.digest 0x90)) := by decide
theorem test_rdHex : (next? (exec (.rdHex 0)
    { inPhase .done with hex := some (hexString ⟨0x98500190, 0xB04FD23C, 0x7D3F96D6, 0x727FE128⟩) })).map (·.out) =
    some (some (.hex 0x39)) ∧ refusal? (exec (.rdHex 0) (inPhase .step)) = some .outputNotValid := by decide
theorem test_init : (next? (exec .init State.reset)).map (·.acc) = some ⟨0x67452301, 0xEFCDAB89, 0x98BADCFE, 0x10325476⟩ := by decide

/-! ### One step -/

/-- Table word 0x10 is OP17; on zero registers it writes 0xC3C4AC5E (95, table 3.6). -/
theorem test_step_fetch_word : (next? (step (State.reset.withFetchWord 8 0b010000))).map (fun t => (t.acc, t.op)) =
    some (⟨0xC3C4AC5E, 0, 0, 0⟩, 18) := by decide
theorem test_step_host_first :
    (next? (step { inPhase .step with host := [.access (.read 1 0), .wait] })).map (fun t => (t.out, t.phase, t.host)) =
    some (some (.status 0b001), .step, [.wait]) := by decide

/-! ### Witnesses: for each statement with hypotheses, a state and operands that meet them, clause by clause -/

theorem witness_DecodeAndEncodeAgree :
    (Instr.rdDigest 15).wellFormed = true ∧ (Instr.rdHex 31).wellFormed = true ∧ (Instr.trom 1).wellFormed = true ∧
    decode (.access (.write 0 6)) = .op .reset ∧ decode (.access (.write 0 5)) = .op .start ∧ decode (.sequencer .fmt 63) = .op .fmt := by
  decide

theorem witness_HostCommandEncoding : (4 : Nat) % 4 = 0 % 4 ∧ 15 < 16 ∧ 31 < 32 := by decide

theorem witness_OpIndexFields : State.reset.opidx = 0 ∧ (atOp 63 iv 0).opidx = 63 := by decide

/-- By register number, and two of them on the bus, where reset's map puts each register at its own number. -/
theorem witness_AccessesThatSelectNothing :
    (5 < 6 ∧ { State.reset with host := [.access (.write 6 0)] }.issues (.write 6 0) []) ∧
    { State.reset with host := [.access (.read 6 0)] }.issues (.read 6 0) [] ∧
    (5 ∈ [1, 2, 4, 5] ∧ { State.reset with host := [.bus (.write 5 0)] }.issues (.write 5 0) []) ∧
    { State.reset with host := [.bus (.read 4 16)] }.issues (.read 4 16) [] ∧
    { State.reset with host := [.access (.read 5 32)] }.issues (.read 5 32) [] ∧
    (8 % 4 = 0 ∧ { State.reset with host := [.access (.write 0 8)] }.issues (.write 0 8) []) ∧
    { State.reset with host := [.access (.read 0 0)] }.issues (.read 0 0) [] :=
  ⟨⟨by decide, _, rfl, rfl⟩, ⟨_, rfl, rfl⟩, ⟨by decide, _, rfl, rfl⟩, ⟨_, rfl, rfl⟩, ⟨_, rfl, rfl⟩, ⟨by decide, _, rfl, rfl⟩, _, rfl, rfl⟩

theorem witness_PrimitivesFollowTheirFormulas : (0 < 1 ∧ 1 < 32) ∧ (0 < 31 ∧ 31 < 32) ∧ 7 < 8 := by decide

theorem witness_RoundFunctionF : (15 : BitVec 6).toNat < 16 ∧ 31 < 32 := by decide
theorem witness_RoundFunctionG : 16 ≤ (16 : BitVec 6).toNat ∧ (31 : BitVec 6).toNat < 32 := by decide
theorem witness_RoundFunctionH : 32 ≤ (32 : BitVec 6).toNat ∧ (47 : BitVec 6).toNat < 48 := by decide
theorem witness_RoundFunctionI : 48 ≤ (48 : BitVec 6).toNat ∧ 48 ≤ (63 : BitVec 6).toNat := by decide

theorem witness_TromFollowsTheSine : (0 = 0 ∨ 64 < 0) ∧ (65 = 0 ∨ 64 < 65) := by decide

theorem witness_EveryOperationHasTheForm :
    ((atOp 0 iv 0).phase = .step ∧ (atOp 0 iv 0).opidx = 0) ∧ (atOp 63 iv 0).phase = .step ∧ (atOp 63 iv 0).opidx = 63 := by decide

theorem witness_OperandAssembly : (3 < 4 ∧ 15 < 16 ∧ (63 : BitVec 6).toNat = 16 * 3 + 15) ∧ (0 : BitVec 6).toNat = 16 * 0 + 0 := by decide

/-- The rows are not empty, and a state is at each of their operations. -/
theorem witness_RoundOneOperations : round1Rows.map (·.opidx) = (List.range 16).map (BitVec.ofNat 6 ·) ∧
    ∀ i : BitVec 6, (atOp i iv 0).phase = .step ∧ (atOp i iv 0).opidx = i := ⟨by decide, fun _ => ⟨rfl, rfl⟩⟩
theorem witness_RoundTwoOperations : round2Rows.map (·.opidx) = (List.range 16).map (fun n => BitVec.ofNat 6 (16 + n)) ∧
    ∀ i : BitVec 6, (atOp i iv 0).phase = .step ∧ (atOp i iv 0).opidx = i := ⟨by decide, fun _ => ⟨rfl, rfl⟩⟩
theorem witness_RoundThreeOperations : round3Rows.map (·.opidx) = (List.range 16).map (fun n => BitVec.ofNat 6 (32 + n)) ∧
    ∀ i : BitVec 6, (atOp i iv 0).phase = .step ∧ (atOp i iv 0).opidx = i := ⟨by decide, fun _ => ⟨rfl, rfl⟩⟩
theorem witness_RoundFourOperations : round4Rows.map (·.opidx) = (List.range 16).map (fun n => BitVec.ofNat 6 (48 + n)) ∧
    ∀ i : BitVec 6, (atOp i iv 0).phase = .step ∧ (atOp i iv 0).opidx = i := ⟨by decide, fun _ => ⟨rfl, rfl⟩⟩

theorem witness_ShiftingRegisterForm : 0 ≤ 16 ∧ 16 ≤ 16 := by decide

theorem witness_PadBuildsTheBuffer : Memory.readBytes (inPhase .idle).msg 0 (inPhase .idle).len = some [0x61, 0x62, 0x63] := by decide
theorem witness_PaddedBufferAsByteFunction : Memory.readBytes abc 0 3 = some [0x61, 0x62, 0x63] ∧ Memory.readBytes [] 0 0 = some [] := by
  decide
theorem witness_BlockCount : 55 % 64 ≤ 55 ∧ 56 ≤ 56 % 64 := by decide
theorem witness_LengthField : 0 < 8 ∧ 7 < 8 := by decide

theorem witness_LoadDecodesTheBlock : (inPhase .load).phase = .load ∧ (inPhase .load).blk < blocks (inPhase .load).len ∧
    ∀ p, 64 * (inPhase .load).blk ≤ p → p < 64 * (inPhase .load).blk + 64 → p < (inPhase .load).len →
      (Memory.read (inPhase .load).msg p).isSome = true := by
  refine ⟨rfl, by decide, fun p _ _ h => ?_⟩
  have h3 : p < 3 := h
  revert p
  decide

theorem witness_LoadRefusesUnwrittenByte :
    let s : State := { inPhase .load with len := 4 }
    s.phase = .load ∧ s.blk < blocks s.len ∧ 64 * s.blk ≤ 3 ∧ 3 < 64 * s.blk + 64 ∧ 3 < s.len ∧ Memory.read s.msg 3 = none := by decide

theorem witness_LastBlockHoldsTheLength : (inPhase .load).phase = .load ∧ (inPhase .load).blk + 1 = blocks (inPhase .load).len ∧
    ∃ t, exec .load (inPhase .load) = .next t := ⟨rfl, by decide, _, rfl⟩

theorem witness_SaveCopiesTheAccumulators : (inPhase .save).phase = .save := by decide
theorem witness_FeedAddsTheSavedCopies : (inPhase .feed).phase = .feed ∧ ¬ (inPhase .feed).blk + 1 < blocks (inPhase .feed).len ∧
    (capped .feed 64).blk + 1 < blocks (capped .feed 64).len := by decide
theorem witness_FmtWritesTheOutputs : (inPhase .fmt).phase = .fmt ∧ 3 < 4 ∧ 7 < 8 := by decide
theorem witness_HexAgreesWithDigest : 0 < 16 ∧ 15 < 16 := by decide
theorem witness_HexIsLowercase : 0 < 32 ∧ 31 < 32 := by decide

theorem witness_NotEnabledHasNoStep : (∀ c ∈ seqPhase, (inPhase .idle).phase ≠ c.2) ∧ ((Instr.load, Phase.load) ∈ seqPhase) ∧
    (inPhase .load).phase ≠ .step ∧ (atOp 1 iv 0).opidx ≠ 0 := by decide

theorem witness_StartAccepted :
    ((capped .idle 64).phase = .idle ∨ (capped .idle 64).phase = .done ∨ (capped .idle 64).phase = .err) ∧
    fits (capped .idle 64).cfg (capped .idle 64).len = true ∧ (capped .done 0).phase = .done ∧
    fits (capped .done 0).cfg (capped .done 0).len = true ∧ (capped .err 64).phase = .err := by decide

theorem witness_StartTakesCapacityFault :
    ((capped .idle 65).phase = .idle ∨ (capped .idle 65).phase = .done ∨ (capped .idle 65).phase = .err) ∧
    (capped .idle 65).cfg.msgCap = some 64 ∧ 64 < (capped .idle 65).len := by decide

theorem witness_StartWhileBusyRefused : busy (inPhase .load).phase = true ∧ busy (inPhase .fmt).phase = true := by decide

theorem witness_HostWrites :
    ((inPhase .idle).phase = .idle ∨ (inPhase .idle).phase = .done ∨ (inPhase .idle).phase = .err) ∧
    hasAddress (capped .done 0).cfg 63 = true ∧ (capped .done 0).phase = .done ∧ busy (inPhase .step).phase = true ∧
    busy (capped .idle 0).phase = false ∧ (capped .idle 0).cfg.msgCap = some 64 ∧ 64 ≤ 64 := by decide

theorem witness_OutputReads :
    let s : State := { inPhase .done with digest := some (serialize iv), hex := some (hexString iv) }
    s.phase = .done ∧ s.digest = some (serialize iv) ∧ s.hex = some (hexString iv) ∧ 15 < 16 ∧ 31 < 32 ∧ 16 ≤ 16 ∧ 32 ≤ 32 := by
  decide

theorem witness_OutputReadsRefusedOutsideDone : (inPhase .fmt).phase ≠ .done ∧ (inPhase .idle).phase ≠ .done := by decide

theorem witness_StepRunsTheDecodedInstruction :
    ({ inPhase .step with host := [.access (.read 1 0)] }.issues (.read 1 0) [] ∧
      { inPhase .step with host := [.bus (.read 1 0)] }.issues (.read 1 0) [] ∧ decode (.access (.read 1 0)) = .op .rdStatus) ∧
    { inPhase .step with host := [.resetInput] }.host = .resetInput :: [] ∧
    ((inPhase .step).host = [] ∧ busy (inPhase .step).phase = true ∧
      decode (.sequencer (inPhase .step).phase (inPhase .step).opidx) = .op .op1) ∧
    { inPhase .step with host := [.wait] }.host = .wait :: [] :=
  ⟨⟨⟨_, rfl, rfl⟩, ⟨_, rfl, rfl⟩, by decide⟩, rfl, by decide, rfl⟩

theorem witness_SequencerSelectsByPhase : (inPhase .load).host = [] ∧ (inPhase .load).phase = .load ∧ (inPhase .save).phase = .save ∧
    (inPhase .step).phase = .step ∧ (inPhase .feed).phase = .feed ∧ (inPhase .fmt).phase = .fmt := by decide

theorem witness_WaitingChangesNothing : busy (inPhase .idle).phase = false ∧ (inPhase .idle).host = [] ∧ busy (inPhase .err).phase = false ∧
    { inPhase .done with host := [.wait] }.host = .wait :: [] := by decide

/-- A state of a run meets the invariant. -/
theorem inv_inPhase_load : Inv (inPhase .load) :=
  ⟨by decide, by decide, by decide, by decide, by decide, by decide, by decide⟩

/-- The same state after INIT. -/
def begun : State := { inPhase .load with acc := iv }

theorem inv_begun : Inv begun := ⟨by decide, by decide, by decide, by decide, by decide, by decide, by decide⟩

theorem onTrack_begun : OnTrack begun := fun _ _ => rfl

theorem messageWritten_inPhase_load : MessageWritten (inPhase .load) := fun p h => witness_LoadDecodesTheBlock.2.2 p (Nat.zero_le p)
  (by have h3 : p < 3 := h; have h0 : (inPhase .load).blk = 0 := rfl; omega) h

theorem witness_InvariantKeptByStep : Inv (inPhase .load) ∧ ∃ t, step (inPhase .load) = .next t := ⟨inv_inPhase_load, _, rfl⟩

theorem witness_OnTrackKeptByStep : Inv begun ∧ OnTrack begun ∧ (∃ m, Memory.readBytes begun.msg 0 begun.len = some m) ∧
    ∃ t, step begun = .next t := ⟨inv_begun, onTrack_begun, ⟨_, rfl⟩, _, rfl⟩

/-- Both kinds of refusal occur under the invariant: a host write while BUSY, and a message byte that nothing has written. -/
theorem witness_NoFaultUnderInvariant :
    (Inv { inPhase .load with host := [.access (.write 3 5)] } ∧
      step { inPhase .load with host := [.access (.write 3 5)] } = .refused .writeWhileBusy) ∧
    Inv { inPhase .load with len := 4 } ∧ step { inPhase .load with len := 4 } = .refused .unwrittenMsgByte :=
  ⟨⟨⟨by decide, by decide, by decide, by decide, by decide, by decide, by decide⟩, rfl⟩,
   ⟨by decide, by decide, by decide, by decide, by decide, by decide, by decide⟩, rfl⟩

theorem witness_EveryBusyStepCompletes : Inv (inPhase .load) ∧ MessageWritten (inPhase .load) ∧ busy (inPhase .load).phase = true ∧
    (inPhase .load).host = [] := ⟨inv_inPhase_load, messageWritten_inPhase_load, rfl, rfl⟩

theorem witness_RunComputesMd5 :
    let s : State := { inPhase .idle with host := [.access (.write 0 1)] }
    busy s.phase = false ∧ s.issues (.write 0 1) [] ∧ fits s.cfg s.len = true ∧
      Memory.readBytes s.msg 0 s.len = some [0x61, 0x62, 0x63] ∧ 0 < 67 * blocks s.len + 1 :=
  ⟨by decide, ⟨_, rfl, rfl⟩, by decide, by decide, by decide⟩

/-- Two states that differ in the accumulators, the message words and a message byte. -/
theorem witness_ControlIgnoresContent :
    let s := inPhase .load
    let s' : State := { inPhase .load with acc := iv, x := Vector.replicate 16 7, msg := [(0, 0), (1, 0), (2, 0)] }
    s'.cfg = s.cfg ∧ s'.phase = s.phase ∧ s'.blk = s.blk ∧ s'.opidx = s.opidx ∧ s'.errcode = s.errcode ∧ s'.len = s.len ∧
      s'.host = s.host ∧ (∃ t, step s = .next t) ∧ ∃ t', step s' = .next t' :=
  ⟨rfl, rfl, rfl, rfl, rfl, rfl, rfl, ⟨_, rfl⟩, _, rfl⟩

/-- The second memory holds a byte at address 3, which is LEN. -/
theorem witness_UnreadBytesDoNotMatter : (inPhase .load).host = [] ∧
    (∀ p, p < (inPhase .load).len → Memory.read (Memory.write abc 3 0xff) p = Memory.read (inPhase .load).msg p) ∧
    ∃ t, step (inPhase .load) = .next t := by
  refine ⟨rfl, fun p h => ?_, _, rfl⟩
  have h3 : p < 3 := h
  revert p
  decide

theorem witness_HostReadsDisturbNothing : returnsOnly .rdStatus ∧ (∃ t, exec .rdStatus (inPhase .step) = .next t) ∧
    (inPhase .step).host = [] ∧ busy (inPhase .step).phase = true ∧ ∃ t, step (inPhase .step) = .next t :=
  ⟨.inl rfl, ⟨_, rfl⟩, rfl, rfl, _, rfl⟩

theorem witness_WhoWritesWhat : (∃ t, exec .save (inPhase .save) = .next t) ∧ ∃ t, exec (.wrMsg 3 1) (inPhase .idle) = .next t :=
  ⟨⟨_, rfl⟩, _, rfl⟩

/-- The host's moves the two statements below name: the reset input, a CTRL write of 2 or of 3 (RESET first, R68), one of 1. -/
theorem witness_resetPending : Claims.resetPending { inPhase .load with host := [.resetInput] } ∧
    Claims.resetPending { inPhase .load with host := [.access (.write 0 2)] } ∧
    Claims.resetPending { inPhase .load with host := [.bus (.write 0 3)] } :=
  ⟨⟨[], .inl rfl⟩, ⟨[], .inr ⟨2, by decide, _, rfl, rfl⟩⟩, [], .inr ⟨3, by decide, _, rfl, rfl⟩⟩

theorem witness_startPending : Claims.startPending { inPhase .err with host := [.access (.write 0 1)] } :=
  ⟨[], 1, by decide, by decide, _, rfl, rfl⟩

theorem witness_MessageFrozenWhileBusy : busy (inPhase .load).phase = true ∧ (∃ t, step (inPhase .load) = .next t) ∧
    ∃ t, step { inPhase .load with host := [.resetInput] } = .next t := ⟨rfl, ⟨_, rfl⟩, _, rfl⟩

/-- Each of the four ways: waiting, the same fault again, an accepted START, RESET. -/
theorem witness_ErrIsLeftByStartOrReset : (capped .err 65).phase = .err ∧ (∃ t, step (capped .err 65) = .next t) ∧
    (∃ t, step { capped .err 65 with host := [.access (.write 0 1)] } = .next t) ∧
    (∃ t, step { capped .err 64 with host := [.access (.write 0 1)] } = .next t) ∧
    ∃ t, step { capped .err 65 with host := [.access (.write 0 2)] } = .next t := ⟨rfl, ⟨_, rfl⟩, ⟨_, rfl⟩, ⟨_, rfl⟩, _, rfl⟩

/-- A map with the registers 16 bytes apart, HEX at the address of DIGEST, and MSG from address 256. -/
def mapped : State :=
  { inPhase .idle with cfg := { msgCap := none, regMap := #v[0x10, 0x20, 0x30, 0x40, 0x50, 0x50], msgBase := 0x100 } }

/-- LEN written and MSG[2] written at their bus addresses; the bus's 3 is no register's address, though it is LEN's number. -/
theorem test_bus :
    (next? (step { mapped with host := [.bus (.write 0x40 65)] })).map State.len = some 65 ∧
    ((next? (step { mapped with host := [.bus (.writeMsg 0x102 0x64)] })).bind fun t => Memory.read t.msg 2) = some 0x64 ∧
    refusal? (step { mapped with host := [.bus (.write 3 65)] }) = some (.rejected (.noSuchBusAddress 3)) := by decide

/-- CTRL and LEN have an address of their own; 3 is no register's, DIGEST and HEX share one, and 255 lies below MSG. -/
theorem witness_BusAccessesFollowTheMap :
    (∀ q : Fin 6, mapped.cfg.regMap[q] = mapped.cfg.regMap[(0 : Fin 6)] → q = 0) ∧
    (∀ q : Fin 6, mapped.cfg.regMap[q] = mapped.cfg.regMap[(3 : Fin 6)] → q = 3) ∧
    (∀ q r : Fin 6, State.reset.cfg.regMap[q] = State.reset.cfg.regMap[r] → q = r) ∧
    (∀ r : Fin 6, mapped.cfg.regMap[r] ≠ 3) ∧
    ((4 : Fin 6) ≠ 5 ∧ mapped.cfg.regMap[(4 : Fin 6)] = 0x50 ∧ mapped.cfg.regMap[(5 : Fin 6)] = 0x50) ∧
    255 < mapped.cfg.msgBase := by decide

end Sys2Proof.Tests
end

section
/-! SUPPORT. The statements of 00_scope.md: the operations outside their phase (O34), accesses on the bus (O59), the primitives (O6),
and the run from START to DONE (O52) by the track of the block chain that each operation of the core keeps. -/

namespace Sys2Proof.Machine

open Sys2Proof.Claims

/-! ### Operations outside their phase -/

theorem whenPhase_neg {p : Phase} {s : State} (k : Host.Outcome State Fault Refusal) (h : s.phase ≠ p) :
    whenPhase p s k = .refused .notEnabled :=
  if_neg h

/-- R65, R66, R104: the STEP row an opidx selects is the generic operation with the descriptor assembled from that opidx. -/
theorem exec_decodeOpidx (idx : BitVec 6) (s : State) : exec (decodeOpidx idx) s = runOperation (descrOf idx) s := by
  obtain ⟨n, hn, rfl⟩ : ∃ n < 64, idx = BitVec.ofNat 6 n := ⟨idx.toNat, idx.isLt, by simp⟩
  interval_cases n <;> rfl

theorem runOperation_notEnabled {d : Descr} {s : State} (h : s.phase ≠ .step ∨ s.opidx ≠ d.opidx) :
    runOperation d s = .refused .notEnabled := by
  by_cases hp : s.phase = .step
  · rw [runOperation, whenPhase_pos _ hp, if_neg (h.resolve_left (not_not_intro hp))]
  · exact whenPhase_neg _ hp

/-- Settles O34: each sequencer row is guarded by its phase, and an operation by its opidx too. -/
theorem notEnabledHasNoStep : Obligations.NotEnabledHasNoStep := by
  refine ⟨fun c hc s hp => ?_, fun idx s h => ?_⟩
  · simp only [seqPhase, List.mem_cons, List.not_mem_nil, or_false] at hc
    rcases hc with rfl | rfl | rfl | rfl <;> exact whenPhase_neg _ hp
  · rw [exec_decodeOpidx]
    exact runOperation_notEnabled h

/-! ### Accesses on the bus -/

/-- A bus address selects no register where none sits there or two do. -/
theorem registerAt_eq_none {c : Config} {addr : Nat}
    (h : (∀ r : Fin 6, c.regMap[r] ≠ addr) ∨ ∃ q r : Fin 6, q ≠ r ∧ c.regMap[q] = addr ∧ c.regMap[r] = addr) :
    registerAt c addr = none := by
  by_contra hn
  obtain ⟨n, hn⟩ := Option.ne_none_iff_exists'.mp hn
  obtain ⟨r, -, hr⟩ := registerAt_some hn
  rcases h with h | ⟨q, q', hne, hq, hq'⟩
  · exact h r ((hr r).mpr rfl)
  · exact hne (((hr q).mp hq).trans ((hr q').mp hq').symm)

/-- An access the host issues runs as what it decodes to, in the state with the move used up; the form of the move is forgotten. -/
theorem step_issues_congr {s s' : State} {a : Access} {rest : List HostMove} (h : s.issues a rest) (h' : s'.issues a rest)
    (hs : s.setHost rest = s'.setHost rest) : step s = step s' := by
  simp only [step, fetch_issues h, fetch_issues h', hs]

theorem step_bus_of_access {s : State} {rest : List HostMove} {b : BusAccess} {a : Access} (h : busAccess s.cfg b = some a) :
    step { s with host := .bus b :: rest } = step { s with host := .access a :: rest } :=
  step_issues_congr ⟨_, rfl, h⟩ ⟨_, rfl, rfl⟩ rfl

/-- R49, U6: a bus access that addresses nothing is refused by its address. -/
theorem step_bus_of_none {s : State} {rest : List HostMove} {b : BusAccess} (h : busAccess s.cfg b = none) :
    step { s with host := .bus b :: rest } = .refused (.rejected (.noSuchBusAddress (busAddress b))) := by
  simp [step, fetch, busCode, h, decode]

/-- Settles O59: a bus access is resolved by `busAccess`, whose answer on registers is `registerAt`. -/
theorem busAccessesFollowTheMap : Obligations.BusAccessesFollowTheMap := by
  refine fun s rest => ⟨fun r hr => ?_, fun p b => ?_, fun a ha => ?_, fun a b ha => ?_⟩
  · have hreg := registerAt_regMap hr
    exact ⟨fun v => step_bus_of_access (by simp only [busAccess, hreg, Option.map_some]),
      fun i => step_bus_of_access (by simp only [busAccess, hreg, Option.map_some])⟩
  · exact step_bus_of_access (by simp [busAccess])
  · have hreg := registerAt_eq_none ha
    exact ⟨fun v => step_bus_of_none (by simp only [busAccess, hreg, Option.map_none]),
      fun i => step_bus_of_none (by simp only [busAccess, hreg, Option.map_none])⟩
  · exact step_bus_of_none (by simp [busAccess, ha])

/-! ### The primitives -/

/-- R9: the bits rotated out at the top are those below position s, so the or of the two shifts is their sum. -/
theorem rotl32_toNat (v : Word) {s : Nat} (h0 : 0 < s) (h : s < 32) :
    (rotl32 v s).toNat = (v.toNat * 2 ^ s) % 2 ^ 32 + v.toNat / 2 ^ (32 - s) := by
  have hpow : (2 : Nat) ^ 32 = 2 ^ (32 - s) * 2 ^ s := by rw [← pow_add]; congr 1; omega
  have hhigh : v.toNat / 2 ^ (32 - s) < 2 ^ s := by
    apply Nat.div_lt_of_lt_mul
    rw [← hpow]
    exact v.isLt
  have hlow : (v.toNat * 2 ^ s) % 2 ^ 32 = (v.toNat % 2 ^ (32 - s)) <<< s := by
    rw [hpow, Nat.mul_mod_mul_right, Nat.shiftLeft_eq]
  rw [hlow, Nat.shiftLeft_add_eq_or_of_lt hhigh, ← hlow]
  simp [rotl32, BitVec.toNat_rotateLeft, Nat.mod_eq_of_lt h, Nat.shiftLeft_eq, Nat.shiftRight_eq_div_pow]

theorem rotl32_getLsbD (v : Word) {s n : Nat} (h : s < 32) (hn : n < 32) :
    (rotl32 v s).getLsbD ((n + s) % 32) = v.getLsbD n := by
  rw [rotl32, BitVec.getLsbD_rotateLeft, Nat.mod_eq_of_lt h]
  by_cases hc : (n + s) % 32 < s
  · have hi : 32 - s + (n + s) % 32 = n := by omega
    simp [hc, hi]
  · have hi : (n + s) % 32 - s = n := by omega
    simp [hc, hi, Nat.mod_lt]

theorem byteOf_le32 (b0 b1 b2 b3 : Byte) :
    byteOf (le32 b0 b1 b2 b3) 0 = b0 ∧ byteOf (le32 b0 b1 b2 b3) 1 = b1 ∧ byteOf (le32 b0 b1 b2 b3) 2 = b2 ∧
      byteOf (le32 b0 b1 b2 b3) 3 = b3 := by
  refine ⟨?_, ?_, ?_, ?_⟩ <;> apply BitVec.eq_of_toNat_eq <;> rw [byteOf_toNat, le32_toNat_eq] <;> omega

theorem byteOf_toNat_shiftRight {n : Nat} (w : BitVec n) (j : Nat) : (byteOf w j).toNat = (w.toNat >>> (8 * j)) % 256 := by
  rw [byteOf_toNat, Nat.shiftRight_eq_div_pow]

theorem le64bytes_getElem? (v : BitVec 64) {j : Nat} (h : j < 8) : (le64bytes v)[j]? = some (byteOf v j) := by
  interval_cases j <;> rfl

theorem hexDigit_toNat (n : BitVec 4) : (hexDigit n).toNat = if n.toNat < 10 then 0x30 + n.toNat else 0x57 + n.toNat := by
  have := n.isLt
  unfold hexDigit
  split <;> simp <;> omega

/-- Settles O6: one lemma for each primitive; add32 and NOT are the library's addition and complement. -/
theorem primitivesFollowTheirFormulas : Obligations.PrimitivesFollowTheirFormulas := by
  refine ⟨fun v w => ⟨BitVec.toNat_add v w, BitVec.toNat_not, (BitVec.xor_allOnes).symm⟩,
    fun v s h0 h => ⟨rotl32_toNat v h0 h, fun n hn => rotl32_getLsbD v h hn⟩,
    fun b0 b1 b2 b3 => ⟨le32_toNat_eq b0 b1 b2 b3, ?_⟩, fun w => rfl, byteOf_toNat_shiftRight, fun v j hj => ?_, hexDigit_toNat⟩
  · obtain ⟨h0, h1, h2, h3⟩ := byteOf_le32 b0 b1 b2 b3
    rw [bswap32, h0, h1, h2, h3]
  · rw [le64bytes_getElem? v hj, ← byteOf_toNat_shiftRight, BitVec.ofNat_toNat, BitVec.setWidth_eq]

/-! ### The padded buffer -/

/-- R80: the loop appends the zeros that are missing to 56 mod 64, where its fuel allows that many. -/
theorem zeroFill_eq_append {fuel k : Nat} {buf : List Byte} (hk : k ≤ fuel) (hk64 : k < 64) (h : (buf.length + k) % 64 = 56) :
    zeroFill fuel buf = buf ++ List.replicate k 0x00 := by
  induction fuel generalizing k buf with
  | zero =>
    obtain rfl : k = 0 := by omega
    simp [zeroFill]
  | succ fuel ih =>
    rw [zeroFill]
    split
    · obtain rfl : k = 0 := by omega
      simp
    · obtain ⟨j, rfl⟩ : ∃ j, k = j + 1 := Nat.exists_eq_succ_of_ne_zero (by rintro rfl; omega)
      have hj : ((buf ++ [0x00]).length + j) % 64 = 56 := by
        rw [List.length_append, List.length_singleton]
        omega
      rw [ih (by omega) (by omega) hj, List.append_assoc, List.replicate_succ, List.singleton_append]

/-- R80, R81: the padded buffer with its count of zero bytes. -/
theorem padMessage_eq (m : List Byte) :
    padMessage m = m ++ 0x80 :: (List.replicate (63 - (m.length + 8) % 64) 0x00 ++ le64bytes (lengthField m.length)) := by
  have h : ((m ++ [0x80]).length + (63 - (m.length + 8) % 64)) % 64 = 56 := by
    rw [List.length_append, List.length_singleton]
    omega
  rw [padMessage, zeroFill_eq_append (by omega) (by omega) h]
  simp

@[simp] theorem le64bytes_length (v : BitVec 64) : (le64bytes v).length = 8 := rfl

theorem padMessage_length (m : List Byte) : (padMessage m).length = 64 * blocks m.length := by
  simp only [padMessage_eq, blocks, List.length_append, List.length_cons, List.length_replicate, le64bytes_length]
  omega

/-- R84: the byte function agrees with the buffer the three steps build, at every address. -/
theorem pbByte_eq_padMessage {mem : Memory} {l : Nat} {m : List Byte} (h : Memory.readBytes mem 0 l = some m) (p : Nat) :
    pbByte mem l p = (padMessage m)[p]? := by
  obtain ⟨rfl, hm⟩ := Memory.readBytes_some h
  rw [pbByte, padMessage_eq]
  have hN : 64 * blocks m.length - 8 = m.length + 1 + (63 - (m.length + 8) % 64) := by
    rw [blocks]
    omega
  split
  · rename_i hp
    rw [List.getElem?_append_left hp, hm p hp, Nat.zero_add]
  · rename_i hp
    rw [List.getElem?_append_right (by omega)]
    split
    · rename_i hp; simp [hp]
    · obtain ⟨j, rfl⟩ : ∃ j, p = m.length + 1 + j := ⟨p - m.length - 1, by omega⟩
      rw [hN, show m.length + 1 + j - m.length = j + 1 by omega, List.getElem?_cons_succ]
      split
      · rename_i hj
        rw [List.getElem?_append_left (by rw [List.length_replicate]; omega), List.getElem?_replicate_of_lt (by omega)]
      · rw [List.getElem?_append_right (by rw [List.length_replicate]; omega), List.length_replicate]
        split
        · rw [le64bytes_getElem? _ (by omega)]
          congr 2
          omega
        · exact (List.getElem?_eq_none (by rw [le64bytes_length]; omega)).symm

/-- R40, R62: a word read through the byte function is the buffer's word at that offset. -/
theorem pbWord_eq_wordAt {mem : Memory} {l p : Nat} {m : List Byte} (h : Memory.readBytes mem 0 l = some m)
    (hp : p + 3 < (padMessage m).length) : pbWord mem l p = some (wordAt (padMessage m) p) := by
  have hb : ∀ q, q < (padMessage m).length → pbByte mem l q = some ((padMessage m).getD q 0) := fun q hq => by
    rw [pbByte_eq_padMessage h, List.getElem?_eq_getElem hq, List.getD_eq_getElem _ _ hq]
  rw [pbWord, hb p (by omega), hb (p + 1) (by omega), hb (p + 2) (by omega), hb (p + 3) (by omega), wordAt]

/-- R102: what LOAD decodes is the block of the padded buffer. -/
theorem blockWords_eq_bufWords {mem : Memory} {l n : Nat} {m : List Byte} (h : Memory.readBytes mem 0 l = some m)
    (hn : n < blocks l) : blockWords mem l n = some (bufWords (padMessage m) n) := by
  have hl : (padMessage m).length = 64 * blocks l := by
    rw [padMessage_length, (Memory.readBytes_some h).1]
  refine allSome_eq_some.mpr fun k => ?_
  rw [pbWord_eq_wordAt h (by have := k.isLt; omega)]
  simp [bufWords]

theorem md5core_eq_chain (m : List Byte) : md5core m = chain (padMessage m) (blocks m.length) := by
  rw [md5core, padMessage_length, Nat.mul_div_cancel_left _ (by decide)]

/-! ### The core's step, phase by phase -/

theorem step_of_fetch_op {s u : State} {c : Code} {i : Instr} (hf : fetch s = some (c, u)) (hd : decode c = .op i) :
    step s = exec i u := by
  simp only [step, hf, hd]

/-- With no host move pending a busy core runs the operation its phase and opidx select. -/
theorem step_core {s : State} {i : Instr} (hh : s.host = []) (hb : busy s.phase = true)
    (hd : decodeSequencer s.phase s.opidx = .op i) : step s = exec i s :=
  step_of_fetch_op (fetch_core hh hb) hd

section
variable {s : State}

theorem onTrack_load (hp : s.phase = .load) :
    OnTrack s ↔ ∀ m, Memory.readBytes s.msg 0 s.len = some m → s.acc = chain (padMessage m) s.blk := by
  simp only [OnTrack, hp]

theorem onTrack_save (hp : s.phase = .save) :
    OnTrack s ↔ ∀ m, Memory.readBytes s.msg 0 s.len = some m →
      s.acc = chain (padMessage m) s.blk ∧ s.x = bufWords (padMessage m) s.blk := by
  simp only [OnTrack, hp]

theorem onTrack_step (hp : s.phase = .step) :
    OnTrack s ↔ ∀ m, Memory.readBytes s.msg 0 s.len = some m →
      s.saved = chain (padMessage m) s.blk ∧ s.x = bufWords (padMessage m) s.blk ∧ s.acc = opsUpTo s.x s.saved s.opidx.toNat := by
  simp only [OnTrack, hp]

theorem onTrack_feed (hp : s.phase = .feed) :
    OnTrack s ↔ ∀ m, Memory.readBytes s.msg 0 s.len = some m →
      s.saved = chain (padMessage m) s.blk ∧ s.x = bufWords (padMessage m) s.blk ∧ s.acc = opsUpTo s.x s.saved 64 := by
  simp only [OnTrack, hp]

theorem onTrack_fmt (hp : s.phase = .fmt) :
    OnTrack s ↔ ∀ m, Memory.readBytes s.msg 0 s.len = some m →
      s.blk + 1 = blocks s.len ∧ s.acc = chain (padMessage m) (blocks s.len) := by
  simp only [OnTrack, hp]

end

section
variable {s t : State} {m : List Byte}

theorem step_load (hh : s.host = []) (hp : s.phase = .load) : step s = execLoad s :=
  step_core (i := .load) hh (by rw [hp]; rfl) (by rw [hp]; rfl)

theorem step_save (hh : s.host = []) (hp : s.phase = .save) : step s = execSave s :=
  step_core (i := .save) hh (by rw [hp]; rfl) (by rw [hp]; rfl)

theorem step_operation (hh : s.host = []) (hp : s.phase = .step) : step s = runOperation (descrOf s.opidx) s := by
  rw [← exec_decodeOpidx]
  exact step_core hh (by rw [hp]; rfl) (by rw [hp]; rfl)

theorem step_feed (hh : s.host = []) (hp : s.phase = .feed) : step s = execFeed s :=
  step_core (i := .feed) hh (by rw [hp]; rfl) (by rw [hp]; rfl)

theorem step_fmt (hh : s.host = []) (hp : s.phase = .fmt) : step s = execFmt s :=
  step_core (i := .fmt) hh (by rw [hp]; rfl) (by rw [hp]; rfl)

/-! ### Where each operation leads -/

theorem execLoad_pos {x : Vector Word 16} (hp : s.phase = .load) (hn : s.blk < blocks s.len)
    (hx : blockWords s.msg s.len s.blk = some x) : execLoad s = .next ((s.setX x).goTo .save s.blk s.opidx) := by
  rw [execLoad, whenPhase_pos _ hp, if_pos hn, hx]

/-- A guarded operation with one outcome has it exactly in its phase. -/
theorem whenPhase_next_iff {p : Phase} {u : State} : whenPhase p s (.next u) = .next t ↔ s.phase = p ∧ t = u := by
  refine ⟨fun h => ?_, fun ⟨hp, ht⟩ => by rw [whenPhase_pos _ hp, ht]⟩
  obtain ⟨hp, hk⟩ := whenPhase_next h
  injection hk with hk
  exact ⟨hp, hk.symm⟩

theorem execSave_next_iff : execSave s = .next t ↔ s.phase = .save ∧ t = (s.setSaved s.acc).goTo .step s.blk 0 :=
  whenPhase_next_iff

theorem execFmt_next_iff :
    execFmt s = .next t ↔ s.phase = .fmt ∧
      t = (s.setOutputs (some (serialize s.acc)) (some (hexString s.acc))).goTo .done s.blk s.opidx :=
  whenPhase_next_iff

/-- R195: the two ways the sequencer advances after an operation. -/
theorem runOperation_next_cases {d : Descr} (h : runOperation d s = .next t) :
    s.phase = .step ∧
      ((s.opidx.toNat < 63 ∧ t = (s.setAcc (operate d s.x s.acc)).goTo .step s.blk (s.opidx + 1)) ∨
       (s.opidx.toNat = 63 ∧ t = (s.setAcc (operate d s.x s.acc)).goTo .feed s.blk s.opidx)) := by
  obtain ⟨hp, -, rfl⟩ := runOperation_next h
  refine ⟨hp, ?_⟩
  have hlt := s.opidx.isLt
  by_cases hi : s.opidx.toNat < 63
  · exact .inl ⟨hi, if_pos hi⟩
  · exact .inr ⟨by omega, if_neg hi⟩

/-- R196: the two ways the sequencer advances after FEED. -/
theorem execFeed_next_cases (h : execFeed s = .next t) :
    s.phase = .feed ∧
      ((s.blk + 1 < blocks s.len ∧ t = (s.setAcc (s.acc.add s.saved)).goTo .load (s.blk + 1) s.opidx) ∨
       (blocks s.len ≤ s.blk + 1 ∧ t = (s.setAcc (s.acc.add s.saved)).goTo .fmt s.blk s.opidx)) := by
  obtain ⟨hp, rfl⟩ := whenPhase_next_iff.mp h
  refine ⟨hp, ?_⟩
  by_cases hb : s.blk + 1 < blocks s.len
  · exact .inl ⟨hb, if_pos hb⟩
  · exact .inr ⟨by omega, if_neg hb⟩

theorem opidx_succ_toNat {i : BitVec 6} (h : i.toNat < 63) : (i + 1).toNat = i.toNat + 1 := by
  bv_omega

/-- R101: an operation extends the composition by one. -/
theorem opsUpTo_opidx_succ (x : Vector Word 16) (q : Quad) (i : BitVec 6) :
    opsUpTo x q (i.toNat + 1) = operate (descrOf i) x (opsUpTo x q i.toNat) := by
  rw [opsUpTo, BitVec.ofNat_toNat, BitVec.setWidth_eq]

/-- R101, R176: FEED ends the compression of the block. -/
theorem chain_succ_of_feed (buf : List Byte) (n : Nat) :
    chain buf (n + 1) = (opsUpTo (bufWords buf n) (chain buf n) 64).add (chain buf n) := rfl

/-! ### Each operation of the core keeps the track -/

theorem execLoad_onTrack (ho : OnTrack s) (h : execLoad s = .next t) : OnTrack t := by
  obtain ⟨hp, hn, x, hx, rfl⟩ := execLoad_next h
  refine (onTrack_save rfl).mpr fun m hm => ⟨(onTrack_load hp).mp ho m hm, ?_⟩
  exact Option.some.inj (hx.symm.trans (blockWords_eq_bufWords hm hn))

theorem execSave_onTrack (ho : OnTrack s) (h : execSave s = .next t) : OnTrack t := by
  obtain ⟨hp, rfl⟩ := execSave_next_iff.mp h
  refine (onTrack_step rfl).mpr fun m hm => ?_
  obtain ⟨hacc, hx⟩ := (onTrack_save hp).mp ho m hm
  exact ⟨hacc, hx, rfl⟩

theorem runOperation_onTrack (ho : OnTrack s) (h : runOperation (descrOf s.opidx) s = .next t) : OnTrack t := by
  obtain ⟨hp, hnext⟩ := runOperation_next_cases h
  have hops : ∀ m, Memory.readBytes s.msg 0 s.len = some m →
      s.saved = chain (padMessage m) s.blk ∧ s.x = bufWords (padMessage m) s.blk ∧
        operate (descrOf s.opidx) s.x s.acc = opsUpTo s.x s.saved (s.opidx.toNat + 1) := fun m hm => by
    obtain ⟨hsaved, hx, hacc⟩ := (onTrack_step hp).mp ho m hm
    exact ⟨hsaved, hx, by rw [opsUpTo_opidx_succ, ← hacc]⟩
  obtain ⟨hi, rfl⟩ | ⟨hi, rfl⟩ := hnext
  · rw [← opidx_succ_toNat hi] at hops
    exact (onTrack_step rfl).mpr hops
  · rw [hi] at hops
    exact (onTrack_feed rfl).mpr hops

theorem execFeed_onTrack (ho : OnTrack s) (hn : s.blk < blocks s.len) (h : execFeed s = .next t) : OnTrack t := by
  obtain ⟨hp, hnext⟩ := execFeed_next_cases h
  have hacc : ∀ m, Memory.readBytes s.msg 0 s.len = some m → s.acc.add s.saved = chain (padMessage m) (s.blk + 1) := fun m hm => by
    obtain ⟨hsaved, hx, hacc⟩ := (onTrack_feed hp).mp ho m hm
    rw [chain_succ_of_feed, hacc, ← hx, ← hsaved]
  obtain ⟨-, rfl⟩ | ⟨hb, rfl⟩ := hnext
  · exact (onTrack_load rfl).mpr hacc
  · have hlast : s.blk + 1 = blocks s.len := le_antisymm hn hb
    exact (onTrack_fmt rfl).mpr fun m hm => ⟨hlast, hlast ▸ hacc m hm⟩

/-! ### Each operation of the core is one step nearer DONE (R203) -/

theorem execLoad_stepsLeft (h : execLoad s = .next t) : stepsLeft s = stepsLeft t + 1 := by
  obtain ⟨hp, -, x, -, rfl⟩ := execLoad_next h
  simp only [stepsLeft, hp, State.goTo_phase, State.goTo_blk, State.goTo_len, State.setX_len]
  omega

theorem execSave_stepsLeft (h : execSave s = .next t) : stepsLeft s = stepsLeft t + 1 := by
  obtain ⟨hp, rfl⟩ := execSave_next_iff.mp h
  simp [stepsLeft, hp]
  omega

theorem runOperation_stepsLeft {d : Descr} (h : runOperation d s = .next t) : stepsLeft s = stepsLeft t + 1 := by
  obtain ⟨hp, ⟨hi, rfl⟩ | ⟨hi, rfl⟩⟩ := runOperation_next_cases h
  · simp [stepsLeft, hp]
    omega
  · simp [stepsLeft, hp, hi]
    omega

theorem execFeed_stepsLeft (h : execFeed s = .next t) : stepsLeft s = stepsLeft t + 1 := by
  obtain ⟨hp, ⟨hb, rfl⟩ | ⟨hb, rfl⟩⟩ := execFeed_next_cases h
  · simp [stepsLeft, hp]
    omega
  · simp [stepsLeft, hp]
    omega

theorem execFmt_stepsLeft (h : execFmt s = .next t) : stepsLeft s = stepsLeft t + 1 := by
  obtain ⟨hp, rfl⟩ := execFmt_next_iff.mp h
  simp [stepsLeft, hp]

theorem stepsLeft_pos (h : busy s.phase = true) : 0 < stepsLeft s := by
  unfold stepsLeft
  cases hp : s.phase with
  | load | save | step | feed | fmt => simp
  | idle | done | err => rw [hp] at h; cases h

end

/-! ### A run of the core -/

/-- What no step of a run writes (R86): the message, its length, ERRCODE and the host's moves. -/
structure SameMessage (s t : State) : Prop where
  msg : t.msg = s.msg
  len : t.len = s.len
  errcode : t.errcode = s.errcode
  host : t.host = s.host

/-- The core is hashing the written message `m`, undisturbed, and is where the block chain says. -/
structure Running (m : List Byte) (s : State) : Prop where
  host : s.host = []
  isBusy : busy s.phase = true
  message : Memory.readBytes s.msg 0 s.len = some m
  blkInRange : s.blk < blocks s.len
  onTrack : OnTrack s

/-- The core is in DONE with the outputs of MD5core(m) (R13, R180). -/
structure Finished (m : List Byte) (s : State) : Prop where
  isDone : s.phase = .done
  digest : s.digest = some (serialize (md5core m))
  hex : s.hex = some (hexString (md5core m))

section
variable {s t u : State} {m : List Byte}

theorem SameMessage.refl (s : State) : SameMessage s s :=
  ⟨rfl, rfl, rfl, rfl⟩

theorem SameMessage.trans (h : SameMessage s t) (h' : SameMessage t u) : SameMessage s u :=
  ⟨h'.msg.trans h.msg, h'.len.trans h.len, h'.errcode.trans h.errcode, h'.host.trans h.host⟩

theorem Finished.stepsLeft (h : Finished m s) : stepsLeft s = 0 := by
  simp [Machine.stepsLeft, h.isDone]

/-- What one step of a run does: it leaves the message, is one step nearer DONE, and stays on the way or finishes. -/
structure Advances (m : List Byte) (s t : State) : Prop where
  same : SameMessage s t
  nearer : stepsLeft s = stepsLeft t + 1
  next : Running m t ∨ Finished m t

/-- A step that leaves the core busy, in range and on the track goes on with the run. -/
theorem Running.advances (h : Running m s) (hf : SameMessage s t) (hs : stepsLeft s = stepsLeft t + 1) (ho : OnTrack t)
    (hb : busy t.phase = true) (hn : t.blk < blocks s.len) : Advances m s t :=
  ⟨hf, hs, .inl ⟨hf.host.trans h.host, hb, by rw [hf.msg, hf.len]; exact h.message, hf.len.symm ▸ hn, ho⟩⟩

theorem Running.advances_load (h : Running m s) (hp : s.phase = .load) : ∃ t, execLoad s = .next t ∧ Advances m s t := by
  obtain ⟨t, hx⟩ : ∃ t, execLoad s = .next t :=
    ⟨_, execLoad_pos hp h.blkInRange (blockWords_eq_bufWords h.message h.blkInRange)⟩
  have hs := execLoad_stepsLeft hx
  have ho := execLoad_onTrack h.onTrack hx
  refine ⟨t, hx, ?_⟩
  obtain ⟨-, -, x, -, rfl⟩ := execLoad_next hx
  exact h.advances ⟨rfl, rfl, rfl, rfl⟩ hs ho rfl h.blkInRange

theorem Running.advances_save (h : Running m s) (hp : s.phase = .save) : ∃ t, execSave s = .next t ∧ Advances m s t := by
  have hx := execSave_next_iff.mpr ⟨hp, rfl⟩
  exact ⟨_, hx, h.advances ⟨rfl, rfl, rfl, rfl⟩ (execSave_stepsLeft hx) (execSave_onTrack h.onTrack hx) rfl h.blkInRange⟩

theorem Running.advances_operation (h : Running m s) (hp : s.phase = .step) :
    ∃ t, runOperation (descrOf s.opidx) s = .next t ∧ Advances m s t := by
  obtain ⟨t, hx⟩ : ∃ t, runOperation (descrOf s.opidx) s = .next t := ⟨_, runOperation_pos hp rfl⟩
  have hs := runOperation_stepsLeft hx
  have ho := runOperation_onTrack h.onTrack hx
  refine ⟨t, hx, ?_⟩
  obtain ⟨-, ⟨-, rfl⟩ | ⟨-, rfl⟩⟩ := runOperation_next_cases hx
  · exact h.advances ⟨rfl, rfl, rfl, rfl⟩ hs ho rfl h.blkInRange
  · exact h.advances ⟨rfl, rfl, rfl, rfl⟩ hs ho rfl h.blkInRange

theorem Running.advances_feed (h : Running m s) (hp : s.phase = .feed) : ∃ t, execFeed s = .next t ∧ Advances m s t := by
  obtain ⟨t, hx⟩ : ∃ t, execFeed s = .next t := ⟨_, whenPhase_pos _ hp⟩
  have hs := execFeed_stepsLeft hx
  have ho := execFeed_onTrack h.onTrack h.blkInRange hx
  refine ⟨t, hx, ?_⟩
  obtain ⟨-, ⟨hb, rfl⟩ | ⟨-, rfl⟩⟩ := execFeed_next_cases hx
  · exact h.advances ⟨rfl, rfl, rfl, rfl⟩ hs ho rfl hb
  · exact h.advances ⟨rfl, rfl, rfl, rfl⟩ hs ho rfl h.blkInRange

/-- R180: FMT ends the run; the accumulators are then the last link of the chain. -/
theorem Running.advances_fmt (h : Running m s) (hp : s.phase = .fmt) : ∃ t, execFmt s = .next t ∧ Advances m s t := by
  have hx := execFmt_next_iff.mpr ⟨hp, rfl⟩
  obtain ⟨-, hacc⟩ := (onTrack_fmt hp).mp h.onTrack m h.message
  have hmd5 : s.acc = md5core m := by rw [md5core_eq_chain, (Memory.readBytes_some h.message).1, hacc]
  exact ⟨_, hx, ⟨rfl, rfl, rfl, rfl⟩, execFmt_stepsLeft hx, .inr ⟨rfl, by rw [← hmd5]; rfl, by rw [← hmd5]; rfl⟩⟩

/-- R193 to R197: a run always has a next step, whatever its phase. -/
theorem Running.step_advances (h : Running m s) : ∃ t, step s = .next t ∧ Advances m s t := by
  have hb := h.isBusy
  cases hp : s.phase with
  | load => rw [step_load h.host hp]; exact h.advances_load hp
  | save => rw [step_save h.host hp]; exact h.advances_save hp
  | step => rw [step_operation h.host hp]; exact h.advances_operation hp
  | feed => rw [step_feed h.host hp]; exact h.advances_feed hp
  | fmt => rw [step_fmt h.host hp]; exact h.advances_fmt hp
  | idle => rw [hp] at hb; cases hb
  | done => rw [hp] at hb; cases hb
  | err => rw [hp] at hb; cases hb

theorem run_succ_of_next {M : Host.Core} {s t : M.State} (h : M.step s = .next t) (k : Nat) : M.run (k + 1) s = M.run k t := by
  rw [Host.Core.run, h]

/-- R203: a run can be followed for as many steps as are left until DONE. -/
theorem Running.run (h : Running m s) {k : Nat} (hk : k ≤ stepsLeft s) :
    ∃ u, core.run k s = .next u ∧ SameMessage s u ∧ stepsLeft u + k = stepsLeft s ∧ (Running m u ∨ Finished m u) := by
  induction k generalizing s with
  | zero => exact ⟨s, rfl, .refl s, rfl, .inl h⟩
  | succ k ih =>
    obtain ⟨t, ht, hsame, hnear, hrun | hfin⟩ := h.step_advances
    · obtain ⟨u, hu, hsame', hleft, hend⟩ := ih hrun (by omega)
      exact ⟨u, (run_succ_of_next (M := core) ht k).trans hu, hsame.trans hsame', by omega, hend⟩
    · have hzero := hfin.stepsLeft
      obtain rfl : k = 0 := by omega
      exact ⟨t, run_succ_of_next (M := core) ht 0, hsame, by omega, .inr hfin⟩

theorem Running.busy_before_end (h : Running m s) {k : Nat} (hk : k < stepsLeft s) :
    ∃ u : State, core.run k s = .next u ∧ busy u.phase = true := by
  obtain ⟨u, hu, -, hleft, hrun | hfin⟩ := h.run (Nat.le_of_lt hk)
  · exact ⟨u, hu, hrun.isBusy⟩
  · have := hfin.stepsLeft
    omega

theorem Running.finished_at_end (h : Running m s) :
    ∃ t : State, core.run (stepsLeft s) s = .next t ∧ SameMessage s t ∧ Finished m t := by
  obtain ⟨t, ht, hsame, hleft, hrun | hfin⟩ := h.run (Nat.le_refl _)
  · have := stepsLeft_pos hrun.isBusy
    omega
  · exact ⟨t, ht, hsame, hfin⟩

/-! ### The start of a run -/

/-- R192: a START that is pending, by number or on the bus, is accepted where the core is not busy and LEN fits. -/
theorem step_start_accepted {rest : List HostMove} (hb : busy s.phase = false) (hi : s.issues (.write 0 1) rest)
    (hf : fits s.cfg s.len = true) : step s = .next (s.setHost rest).acceptStart := by
  rw [step_of_fetch_op (i := .start) (fetch_issues hi) rfl]
  exact (whenNotBusy_pos _ hb).trans (if_pos hf)

/-- R204: an accepted START begins a run at block 0 from IV, whatever the registers held. -/
theorem acceptStart_running (hh : s.host = []) (hm : Memory.readBytes s.msg 0 s.len = some m) : Running m s.acceptStart :=
  ⟨hh, rfl, hm, Nat.succ_pos _, (onTrack_load rfl).mpr fun _ _ => rfl⟩

theorem acceptStart_stepsLeft (s : State) : stepsLeft s.acceptStart = 67 * blocks s.len + 1 := by
  simp [Machine.stepsLeft, blocks]
  omega

end

/-- Settles O52: the accepted START begins a run of 67N + 1 steps, each of which keeps the track of the block chain. -/
theorem runComputesMd5 : Obligations.RunComputesMd5 := by
  intro s m hb hi hf hm
  have hstart : ∀ k, core.run (1 + k) s = core.run k (s.setHost []).acceptStart := fun k => by
    rw [Nat.add_comm, run_succ_of_next (M := core) (step_start_accepted hb hi hf)]
  have hrun : Running m (s.setHost []).acceptStart := acceptStart_running rfl hm
  have hleft : stepsLeft (s.setHost []).acceptStart = 67 * blocks s.len + 1 := acceptStart_stepsLeft _
  simp only [hstart, ← hleft]
  obtain ⟨t, ht, hsame, hfin⟩ := hrun.finished_at_end
  exact ⟨fun k hk => hrun.busy_before_end hk, t, ht, hfin.isDone, hfin.digest, hfin.hex, hsame.msg, hsame.len, hsame.errcode⟩

end Sys2Proof.Machine
end

section
/-! SUPPORT. The statements of 10_state.md: the state after reset (O39, O47), which operation writes which state (O56), the control's
independence of content (O53), and the invariant every step keeps (O48). -/

namespace Sys2Proof.Machine

open Sys2Proof.Claims

/-! ### The operations by kind -/

/-- R65: an instruction whose code is a STEP code is the operation its opidx selects. -/
theorem eq_decodeOpidx_of_encode {i : Instr} {idx : BitVec 6} (h : encode i = .sequencer .step idx) : i = decodeOpidx idx := by
  cases i <;> cases h <;> rfl

theorem encode_decodeOpidx (idx : BitVec 6) : encode (decodeOpidx idx) = .sequencer .step idx := by
  obtain ⟨n, hn, rfl⟩ : ∃ n < 64, idx = BitVec.ofNat 6 n := ⟨idx.toNat, idx.isLt, by simp⟩
  interval_cases n <;> rfl

/-- The rows of the table by what they do: those that only return a value, the STEP rows as one, and each of the others. -/
inductive Kind : Instr → Prop
  | returns {i : Instr} (hi : returnsOnly i) : Kind i
  | operation (idx : BitVec 6) : Kind (decodeOpidx idx)
  | reset : Kind .reset
  | start : Kind .start
  | wrLen (v : Nat) : Kind (.wrLen v)
  | wrMsg (p : Nat) (b : Byte) : Kind (.wrMsg p b)
  | init : Kind .init
  | load : Kind .load
  | save : Kind .save
  | feed : Kind .feed
  | fmt : Kind .fmt

theorem Kind.of_encode {i : Instr} {idx : BitVec 6} (h : encode i = .sequencer .step idx) : Kind i :=
  eq_decodeOpidx_of_encode h ▸ .operation idx

theorem Kind.of (i : Instr) : Kind i := by
  cases i with
  | rdStatus | rdErrcode | rdLen | rdDigest | rdHex | pad | fnF | fnG | fnH | fnI | trom =>
    exact .returns (by simp [returnsOnly])
  | reset => exact .reset
  | start => exact .start
  | wrLen v => exact .wrLen v
  | wrMsg p b => exact .wrMsg p b
  | init => exact .init
  | load => exact .load
  | save => exact .save
  | feed => exact .feed
  | fmt => exact .fmt
  | _ => exact .of_encode rfl

/-! ### The next state of the host commands and of the functions -/

section
variable {s t u : State}

theorem next_inj (h : (.next u : Host.Outcome State Fault Refusal) = .next t) : t = u :=
  (Host.Outcome.next.inj h).symm

theorem execPad_next (h : execPad s = .next t) : ∃ v, t = s.setOut v := by
  unfold execPad at h
  split at h
  · exact ⟨_, next_inj h⟩
  · cases h

theorem execTrom_next {n : Nat} (h : execTrom n s = .next t) : ∃ v, t = s.setOut v := by
  unfold execTrom at h
  split at h
  · exact ⟨_, next_inj h⟩
  · cases h

theorem readOutput_next_setOut {n : Nat} {o : Option (Vector Byte n)} {i : Nat} {wrap : Byte → Value}
    (h : readOutput o i wrap s = .next t) : ∃ v, t = s.setOut v := by
  obtain ⟨-, v, -, hi, rfl⟩ := readOutput_next h
  exact ⟨_, rfl⟩

/-- R199, R201, R90: a read or a function writes only the model's field out (log 9). -/
theorem exec_returnsOnly_next {i : Instr} (hi : returnsOnly i) (h : exec i s = .next t) : ∃ v, t = s.setOut v := by
  obtain rfl | rfl | rfl | ⟨m, rfl⟩ | ⟨q, rfl⟩ | rfl | ⟨x, y, z, rfl⟩ | ⟨x, y, z, rfl⟩ | ⟨x, y, z, rfl⟩ | ⟨x, y, z, rfl⟩ |
    ⟨n, rfl⟩ := hi
  · exact ⟨_, next_inj h⟩
  · exact ⟨_, next_inj h⟩
  · exact ⟨_, next_inj h⟩
  · exact readOutput_next_setOut (o := s.digest) h
  · exact readOutput_next_setOut (o := s.hex) h
  · exact execPad_next h
  · exact ⟨_, next_inj h⟩
  · exact ⟨_, next_inj h⟩
  · exact ⟨_, next_inj h⟩
  · exact ⟨_, next_inj h⟩
  · exact execTrom_next h

/-- R192, R212: the two ways an unrefused START can go. -/
theorem execStart_next_cases (h : execStart s = .next t) :
    busy s.phase = false ∧
      (fits s.cfg s.len = true ∧ t = s.acceptStart ∨ fits s.cfg s.len = false ∧ t = s.raiseCapacityFault) := by
  obtain ⟨hb, hk⟩ := whenNotBusy_next h
  refine ⟨hb, ?_⟩
  cases hf : fits s.cfg s.len with
  | true => rw [hf] at hk; exact .inl ⟨rfl, next_inj hk⟩
  | false => rw [hf] at hk; exact .inr ⟨rfl, next_inj hk⟩

theorem execWrLen_next {v : Nat} (h : execWrLen v s = .next t) : busy s.phase = false ∧ t = s.setLen v := by
  obtain ⟨hb, hk⟩ := whenNotBusy_next h
  exact ⟨hb, next_inj hk⟩

theorem execWrMsg_next {p : Nat} {b : Byte} (h : execWrMsg p b s = .next t) :
    busy s.phase = false ∧ hasAddress s.cfg p = true ∧ t = s.setMsg (s.msg.write p b) := by
  obtain ⟨hb, hk⟩ := whenNotBusy_next h
  split at hk
  · exact ⟨hb, ‹_›, next_inj hk⟩
  · cases hk

/-! ### The state after reset -/

/-- Settles O39: the fields of the state after reset, read off. -/
theorem resetState : Obligations.ResetState :=
  ⟨rfl, rfl, rfl, rfl, rfl, rfl, rfl, rfl⟩

theorem reset_inv : Inv State.reset where
  msgWf := Memory.wf_nil
  msgInCap := nofun
  lenFits := nofun
  blkInRange := nofun
  errcodeIffErr := by decide
  outputsInDone := nofun
  outputsElsewhere _ := ⟨rfl, rfl⟩

/-- Settles O47: MSG is empty, no run is on its way, and the outputs hold no value. -/
theorem invariantAtReset : Obligations.InvariantAtReset :=
  ⟨reset_inv, fun _ _ => trivial⟩

/-! ### Which operation writes which state -/

/-- What an instruction may write: each field is kept unless the instruction is one of those named at it. A proof of it names the
fields its instruction writes; the others are kept. -/
structure Writes (i : Instr) (s t : State) : Prop where
  cfg : t.cfg = s.cfg := by rfl
  host : t.host = s.host := by rfl
  msg : ∀ a, Memory.read t.msg a = Memory.read s.msg a ∨ ∃ b, i = .wrMsg a b ∧ Memory.read t.msg a = some b := by
    exact fun _ => .inl rfl
  len : t.len = s.len ∨ i = .reset ∨ i = .wrLen t.len := by exact .inl rfl
  acc : t.acc = s.acc ∨ i = .reset ∨ i = .start ∨ i = .init ∨ i = .feed ∨ ∃ idx, i = decodeOpidx idx := by exact .inl rfl
  saved : t.saved = s.saved ∨ i = .reset ∨ i = .save := by exact .inl rfl
  x : t.x = s.x ∨ i = .reset ∨ i = .load := by exact .inl rfl
  outputs : t.digest = s.digest ∧ t.hex = s.hex ∨ i = .reset ∨ i = .start ∨ i = .fmt := by exact .inl ⟨rfl, rfl⟩
  errcode : t.errcode = s.errcode ∨ i = .reset ∨ i = .start := by exact .inl rfl
  blk : t.blk = s.blk ∨ i = .reset ∨ i = .start ∨ i = .feed := by exact .inl rfl
  phase : t.phase = s.phase ∨ i = .reset ∨ i = .start ∨ i = .load ∨ i = .save ∨ i = .op64 ∨ i = .feed ∨ i = .fmt := by
    exact .inl rfl
  opidx : t.opidx = s.opidx ∨ i = .reset ∨ i = .start ∨ i = .save ∨ ∃ idx : BitVec 6, idx ≠ 63 ∧ i = decodeOpidx idx := by
    exact .inl rfl
  out : t.out = s.out ∨ returnsOnly i := by exact .inl rfl
  free : t.free = s.free ∨ i = .reset := by exact .inl rfl

theorem exec_reset_writes (h : exec .reset s = .next t) : Writes .reset s t := by
  obtain rfl := next_inj h
  exact { len := by simp, acc := by simp, saved := by simp, x := by simp, outputs := by simp, errcode := by simp,
          blk := by simp, phase := by simp, opidx := by simp, free := by simp }

theorem exec_start_writes (h : exec .start s = .next t) : Writes .start s t := by
  obtain ⟨-, ⟨-, rfl⟩ | ⟨-, rfl⟩⟩ := execStart_next_cases h
  · exact { acc := by simp, outputs := by simp, errcode := by simp, blk := by simp, phase := by simp, opidx := by simp }
  · exact { outputs := by simp, errcode := by simp, phase := by simp }

theorem exec_wrMsg_writes {p : Nat} {b : Byte} (h : exec (.wrMsg p b) s = .next t) : Writes (.wrMsg p b) s t := by
  obtain ⟨-, -, rfl⟩ := execWrMsg_next h
  refine { msg := fun a => ?_ }
  by_cases ha : a = p
  · subst ha
    exact .inr ⟨b, rfl, Memory.read_write_same _ _ _⟩
  · exact .inl (Memory.read_write_other _ _ ha)

/-- R195: OP64 advances the phase, every other operation the op. -/
theorem exec_operation_writes {idx : BitVec 6} (h : exec (decodeOpidx idx) s = .next t) : Writes (decodeOpidx idx) s t := by
  rw [exec_decodeOpidx] at h
  obtain ⟨hp, hidx, -⟩ := runOperation_next h
  obtain rfl : s.opidx = idx := hidx
  obtain ⟨-, ⟨hi, rfl⟩ | ⟨hi, rfl⟩⟩ := runOperation_next_cases h
  · have hne : s.opidx ≠ 63 := fun he => by simp [he] at hi
    exact { acc := by simp, phase := .inl hp.symm, opidx := .inr (.inr (.inr (.inr ⟨_, hne, rfl⟩))) }
  · have h63 : s.opidx = 63 := BitVec.eq_of_toNat_eq hi
    exact { acc := by simp, phase := by simp [h63, decodeOpidx] }

theorem exec_feed_writes (h : exec .feed s = .next t) : Writes .feed s t := by
  obtain ⟨-, ⟨-, rfl⟩ | ⟨-, rfl⟩⟩ := execFeed_next_cases h
  · exact { acc := by simp, blk := by simp, phase := by simp }
  · exact { acc := by simp, phase := by simp }

theorem exec_writes {i : Instr} (h : exec i s = .next t) : Writes i s t := by
  cases Kind.of i with
  | returns hi =>
    obtain ⟨v, rfl⟩ := exec_returnsOnly_next hi h
    exact { out := .inr hi }
  | operation idx => exact exec_operation_writes h
  | reset => exact exec_reset_writes h
  | start => exact exec_start_writes h
  | wrLen v =>
    obtain ⟨-, rfl⟩ := execWrLen_next h
    exact { len := .inr (.inr rfl) }
  | wrMsg p b => exact exec_wrMsg_writes h
  | init =>
    obtain rfl := next_inj h
    exact { acc := by simp }
  | load =>
    obtain ⟨-, -, x, -, rfl⟩ := execLoad_next h
    exact { x := by simp, phase := by simp }
  | save =>
    obtain ⟨-, rfl⟩ := execSave_next_iff.mp h
    exact { saved := by simp, phase := by simp, opidx := by simp }
  | feed => exact exec_feed_writes h
  | fmt =>
    obtain ⟨-, rfl⟩ := execFmt_next_iff.mp h
    exact { outputs := by simp, phase := by simp }

/-- R195, R200: what is no operation of the sequencer, RESET or START leaves the sequencer where it is. -/
theorem exec_keepsSequencer {i : Instr}
    (hi : returnsOnly i ∨ i = .init ∨ (∃ v, i = .wrLen v) ∨ ∃ p b, i = .wrMsg p b) (h : exec i s = .next t) :
    t.phase = s.phase ∧ t.blk = s.blk ∧ t.opidx = s.opidx := by
  obtain hi | rfl | ⟨v, rfl⟩ | ⟨p, b, rfl⟩ := hi
  · obtain ⟨v, rfl⟩ := exec_returnsOnly_next hi h
    exact ⟨rfl, rfl, rfl⟩
  · obtain rfl := next_inj h
    exact ⟨rfl, rfl, rfl⟩
  · obtain ⟨-, rfl⟩ := execWrLen_next h
    exact ⟨rfl, rfl, rfl⟩
  · obtain ⟨-, -, rfl⟩ := execWrMsg_next h
    exact ⟨rfl, rfl, rfl⟩

end

/-- Settles O56: the fields each kind of instruction writes. -/
theorem whoWritesWhat : Obligations.WhoWritesWhat := by
  intro i s t h
  have w := exec_writes h
  exact ⟨w.cfg, w.host, w.msg, w.len, w.acc, w.saved, w.x, w.outputs, w.errcode, w.blk, w.phase, w.opidx, w.out, w.free,
    fun hi => exec_keepsSequencer hi h⟩

/-! ### The control does not depend on content -/

/-- The state with its content, the model's own counter and the value returned put back to reset: what is left is the control. -/
def State.control (s : State) : State :=
  { State.reset with
    cfg := s.cfg, phase := s.phase, blk := s.blk, opidx := s.opidx, errcode := s.errcode, len := s.len, host := s.host }

section
variable {s s' t t' : State}

theorem control_eq_iff : s'.control = s.control ↔
    s'.cfg = s.cfg ∧ s'.phase = s.phase ∧ s'.blk = s.blk ∧ s'.opidx = s.opidx ∧ s'.errcode = s.errcode ∧ s'.len = s.len ∧
      s'.host = s.host := by
  simp [State.control]

theorem control_afterOperation (s : State) : s.afterOperation.control = s.control.afterOperation := by
  unfold State.afterOperation
  exact apply_ite State.control ..

theorem control_afterFeed (s : State) : s.afterFeed.control = s.control.afterFeed := by
  unfold State.afterFeed
  exact apply_ite State.control ..

/-- Where START leads, on the control alone. -/
def State.controlAfterStart (s : State) : State :=
  if fits s.cfg s.len then s.acceptStart.control else s.raiseCapacityFault.control

theorem execStart_control (h : execStart s = .next t) : t.control = s.control.controlAfterStart := by
  obtain ⟨-, ⟨hf, rfl⟩ | ⟨hf, rfl⟩⟩ := execStart_next_cases h
  · exact (if_pos hf).symm
  · exact (if_neg (Bool.eq_false_iff.mp hf)).symm

/-- R26: an instruction that answers takes the control to a function of the control, whatever the content. -/
theorem exec_control (i : Instr) : ∃ f : State → State, ∀ s t, exec i s = .next t → t.control = f s.control := by
  cases Kind.of i with
  | returns hi =>
    refine ⟨id, fun s t h => ?_⟩
    obtain ⟨v, rfl⟩ := exec_returnsOnly_next hi h
    rfl
  | operation idx =>
    refine ⟨State.afterOperation, fun s t h => ?_⟩
    obtain ⟨-, -, rfl⟩ := runOperation_next (exec_decodeOpidx idx s ▸ h)
    exact control_afterOperation _
  | reset =>
    refine ⟨fun s => (((s.goTo .idle 0 0).setErrcode .none).setLen 0), fun s t h => ?_⟩
    obtain rfl := next_inj h
    rfl
  | start => exact ⟨State.controlAfterStart, fun s t h => execStart_control h⟩
  | wrLen v =>
    refine ⟨fun s => s.setLen v, fun s t h => ?_⟩
    obtain ⟨-, rfl⟩ := execWrLen_next h
    rfl
  | wrMsg p b =>
    refine ⟨id, fun s t h => ?_⟩
    obtain ⟨-, -, rfl⟩ := execWrMsg_next h
    rfl
  | init =>
    refine ⟨id, fun s t h => ?_⟩
    obtain rfl := next_inj h
    rfl
  | load =>
    refine ⟨fun s => s.goTo .save s.blk s.opidx, fun s t h => ?_⟩
    obtain ⟨-, -, x, -, rfl⟩ := execLoad_next h
    rfl
  | save =>
    refine ⟨fun s => s.goTo .step s.blk 0, fun s t h => ?_⟩
    obtain ⟨-, rfl⟩ := execSave_next_iff.mp h
    rfl
  | feed =>
    refine ⟨State.afterFeed, fun s t h => ?_⟩
    obtain ⟨-, rfl⟩ := whenPhase_next_iff.mp h
    exact control_afterFeed _
  | fmt =>
    refine ⟨fun s => s.goTo .done s.blk s.opidx, fun s t h => ?_⟩
    obtain ⟨-, rfl⟩ := execFmt_next_iff.mp h
    rfl

theorem coreFetch_control (s : State) : coreFetch s.control = (coreFetch s).map (Prod.map id State.control) := by
  rw [coreFetch, coreFetch, apply_ite (Option.map (Prod.map id State.control))]
  rfl

/-- What is fetched is read off the control. -/
theorem fetch_control (s : State) : fetch s.control = (fetch s).map (Prod.map id State.control) := by
  have hh : s.control.host = s.host := rfl
  unfold fetch
  rw [hh]
  cases s.host with
  | nil => exact coreFetch_control s
  | cons m rest =>
    cases m with
    | wait => exact coreFetch_control (s.setHost rest)
    | resetInput | access | bus => rfl

/-- A step runs the same instruction from two states of the same control, if it runs one, on states of the same control. -/
theorem step_control (hc : s'.control = s.control) (h : step s = .next t) (h' : step s' = .next t') :
    t'.control = t.control := by
  have hfetch : (fetch s').map (Prod.map id State.control) = (fetch s).map (Prod.map id State.control) := by
    rw [← fetch_control, ← fetch_control, hc]
  unfold step at h h'
  cases hf : fetch s with
  | none =>
    have hf' : fetch s' = none := by simpa [hf] using hfetch
    rw [hf] at h; rw [hf'] at h'
    rw [next_inj h, next_inj h']
    exact congrArg State.waiting hc
  | some cu =>
    obtain ⟨c, u⟩ := cu
    obtain ⟨u', hf', hu⟩ : ∃ u', fetch s' = some (c, u') ∧ u'.control = u.control := by
      simpa [hf, Prod.ext_iff] using hfetch
    rw [hf] at h; rw [hf'] at h'
    dsimp only at h h'
    cases hd : decode c with
    | op i =>
      rw [hd] at h h'
      obtain ⟨f, hexec⟩ := exec_control i
      rw [hexec u' t' h', hexec u t h, hu]
    | ctrlNone =>
      rw [hd] at h h'
      rw [next_inj h, next_inj h', hu]
    | ctrlRead =>
      rw [hd] at h h'
      rw [next_inj h, next_inj h']
      exact hu
    | reject why => rw [hd] at h; cases h

end

/-- Settles O53: a step takes the control to a function of the control. -/
theorem controlIgnoresContent : Obligations.ControlIgnoresContent := by
  intro s s' t t' hcfg hphase hblk hopidx herr hlen hhost h h'
  have hc : s'.control = s.control := control_eq_iff.mpr ⟨hcfg, hphase, hblk, hopidx, herr, hlen, hhost⟩
  exact (control_eq_iff.mp (step_control hc h h')).2

/-! ### The invariant -/

theorem ne_done_of_busy {p : Phase} (h : busy p = true) : p ≠ .done := by
  rintro rfl
  cases h

theorem ne_err_of_busy {p : Phase} (h : busy p = true) : p ≠ .err := by
  rintro rfl
  cases h

section
variable {s t u : State}

/-! #### What each update asks for to keep the invariant -/

theorem Inv.setHost (h : Inv s) (l : List HostMove) : Inv (s.setHost l) := { h with }

theorem Inv.setOut (h : Inv s) (v : Value) : Inv (s.setOut v) := { h with }

theorem Inv.setX (h : Inv s) (x : Vector Word 16) : Inv (s.setX x) := { h with }

theorem Inv.setSaved (h : Inv s) (q : Quad) : Inv (s.setSaved q) := { h with }

/-- In DONE the accumulators are those of the outputs. -/
theorem Inv.setAcc (h : Inv s) (hd : s.phase ≠ .done) (q : Quad) : Inv (s.setAcc q) :=
  { h with outputsInDone := fun hp => absurd hp hd }

theorem Inv.setLen (h : Inv s) (hb : busy s.phase = false) (l : Nat) : Inv (s.setLen l) :=
  have hn : ∀ {p : Prop}, busy s.phase = true → p := fun hb' => absurd hb' (Bool.eq_false_iff.mp hb)
  { h with lenFits := hn, blkInRange := hn }

theorem Inv.setMsg_write (h : Inv s) {p : Nat} (ha : hasAddress s.cfg p = true) (b : Byte) : Inv (s.setMsg (s.msg.write p b)) :=
  { h with
    msgWf := Memory.write_wf p b h.msgWf
    msgInCap := fun c hc => by
      obtain rfl | hc := Memory.mem_write hc
      · exact ha
      · exact h.msgInCap c hc }

/-- The sequencer going on within a run. -/
theorem Inv.goTo_busy (h : Inv s) (hb : busy s.phase = true) {p : Phase} {n : Nat} (hp : busy p = true) (hn : n < blocks s.len)
    (i : BitVec 6) : Inv (s.goTo p n i) :=
  { h with
    lenFits := fun _ => h.lenFits hb
    blkInRange := fun _ => hn
    errcodeIffErr := iff_of_false (mt h.errcodeIffErr.mp (ne_err_of_busy hb)) (ne_err_of_busy hp)
    outputsInDone := fun hd => absurd hd (ne_done_of_busy hp)
    outputsElsewhere := fun _ => h.outputsElsewhere (ne_done_of_busy hb) }

theorem Inv.acceptStart (h : Inv s) (hf : fits s.cfg s.len = true) : Inv s.acceptStart :=
  { h with
    lenFits := fun _ => hf
    blkInRange := fun _ => Nat.succ_pos _
    errcodeIffErr := iff_of_false nofun nofun
    outputsInDone := nofun
    outputsElsewhere := fun _ => ⟨rfl, rfl⟩ }

theorem Inv.raiseCapacityFault (h : Inv s) : Inv s.raiseCapacityFault :=
  { h with
    lenFits := nofun
    blkInRange := nofun
    errcodeIffErr := iff_of_true rfl rfl
    outputsInDone := nofun
    outputsElsewhere := fun _ => ⟨rfl, rfl⟩ }

/-! #### Each instruction a step can run keeps it -/

theorem execReset_inv (hs : Inv s) (h : execReset s = .next t) : Inv t := by
  obtain rfl := next_inj h
  exact
    { hs with
      lenFits := nofun
      blkInRange := nofun
      errcodeIffErr := iff_of_false nofun nofun
      outputsInDone := nofun
      outputsElsewhere := fun _ => ⟨rfl, rfl⟩ }

theorem execStart_inv (hs : Inv s) (h : execStart s = .next t) : Inv t := by
  obtain ⟨-, ⟨hf, rfl⟩ | ⟨-, rfl⟩⟩ := execStart_next_cases h
  · exact hs.acceptStart hf
  · exact hs.raiseCapacityFault

theorem execLoad_inv (hs : Inv s) (h : execLoad s = .next t) : Inv t := by
  obtain ⟨hp, hn, x, -, rfl⟩ := execLoad_next h
  exact (hs.setX x).goTo_busy (congrArg busy hp) rfl hn _

theorem execSave_inv (hs : Inv s) (h : execSave s = .next t) : Inv t := by
  obtain ⟨hp, rfl⟩ := execSave_next_iff.mp h
  have hb : busy s.phase = true := congrArg busy hp
  exact (hs.setSaved s.acc).goTo_busy hb rfl (hs.blkInRange hb) _

theorem runOperation_inv {d : Descr} (hs : Inv s) (h : runOperation d s = .next t) : Inv t := by
  obtain ⟨hp, hnext⟩ := runOperation_next_cases h
  have hb : busy s.phase = true := congrArg busy hp
  have hacc := hs.setAcc (ne_done_of_busy hb) (operate d s.x s.acc)
  obtain ⟨-, rfl⟩ | ⟨-, rfl⟩ := hnext
  · exact hacc.goTo_busy hb rfl (hs.blkInRange hb) _
  · exact hacc.goTo_busy hb rfl (hs.blkInRange hb) _

theorem execFeed_inv (hs : Inv s) (h : execFeed s = .next t) : Inv t := by
  obtain ⟨hp, hnext⟩ := execFeed_next_cases h
  have hb : busy s.phase = true := congrArg busy hp
  have hacc := hs.setAcc (ne_done_of_busy hb) (s.acc.add s.saved)
  obtain ⟨hn, rfl⟩ | ⟨-, rfl⟩ := hnext
  · exact hacc.goTo_busy hb rfl hn _
  · exact hacc.goTo_busy hb rfl (hs.blkInRange hb) _

/-- R180: FMT writes the outputs from the accumulators as it enters DONE. -/
theorem execFmt_inv (hs : Inv s) (h : execFmt s = .next t) : Inv t := by
  obtain ⟨hp, rfl⟩ := execFmt_next_iff.mp h
  have herr : s.phase ≠ .err := ne_err_of_busy (congrArg busy hp)
  exact
    { hs with
      lenFits := nofun
      blkInRange := nofun
      errcodeIffErr := iff_of_false (mt hs.errcodeIffErr.mp herr) nofun
      outputsInDone := fun _ => ⟨rfl, rfl⟩
      outputsElsewhere := fun hd => absurd rfl hd }

/-- Every instruction but INIT, which as a row of its own (log 11) would change the accumulators in DONE. -/
theorem exec_inv {i : Instr} (hi : i ≠ .init) (hs : Inv s) (h : exec i s = .next t) : Inv t := by
  cases Kind.of i with
  | returns hr =>
    obtain ⟨v, rfl⟩ := exec_returnsOnly_next hr h
    exact hs.setOut v
  | operation idx => exact runOperation_inv hs (exec_decodeOpidx idx s ▸ h)
  | reset => exact execReset_inv hs h
  | start => exact execStart_inv hs h
  | wrLen v =>
    obtain ⟨hb, rfl⟩ := execWrLen_next h
    exact hs.setLen hb v
  | wrMsg p b =>
    obtain ⟨-, ha, rfl⟩ := execWrMsg_next h
    exact hs.setMsg_write ha b
  | init => exact absurd rfl hi
  | load => exact execLoad_inv hs h
  | save => exact execSave_inv hs h
  | feed => exact execFeed_inv hs h
  | fmt => exact execFmt_inv hs h

/-! #### What a step can run -/

theorem decodeAccess_ne_init (a : Access) : decodeAccess a ≠ .op .init := by
  cases a with
  | write reg v =>
    simp only [decodeAccess, decodeWrite, decodeCtrlWrite]
    repeat' split
    all_goals nofun
  | read reg idx =>
    simp only [decodeAccess, decodeRead, decodeScalarRead]
    repeat' split
    all_goals nofun
  | writeMsg p b => nofun

theorem decodeSequencer_ne_init (p : Phase) (idx : BitVec 6) : decodeSequencer p idx ≠ .op .init := by
  cases p with
  | step =>
    intro h
    have hi : decodeOpidx idx = .init := Decoded.op.inj h
    cases (encode_decodeOpidx idx).symm.trans (congrArg encode hi)
  | _ => nofun

/-- Log 11: no agent's move selects INIT. -/
theorem decode_fetch_ne_init {c : Code} (h : fetch s = some (c, u)) : decode c ≠ .op .init := by
  obtain ⟨_, -, rfl, -⟩ | ⟨a, _, -, rfl, -⟩ | ⟨b, _, -, -, rfl, -⟩ | ⟨-, rfl, -⟩ := fetch_cases h
  · nofun
  · exact decodeAccess_ne_init a
  · nofun
  · exact decodeSequencer_ne_init s.phase s.opidx

/-- Fetching uses up a move of the host at most. -/
theorem fetch_eq_setHost {c : Code} (h : fetch s = some (c, u)) : ∃ l, u = s.setHost l := by
  obtain ⟨l, -, -, rfl⟩ | ⟨_, l, -, -, rfl⟩ | ⟨_, l, -, -, -, rfl⟩ | ⟨-, -, ⟨-, rfl⟩ | ⟨l, -, rfl⟩⟩ := fetch_cases h
  · exact ⟨l, rfl⟩
  · exact ⟨l, rfl⟩
  · exact ⟨l, rfl⟩
  · exact ⟨u.host, rfl⟩
  · exact ⟨l, rfl⟩

theorem Inv.of_fetch {c : Code} (hs : Inv s) (h : fetch s = some (c, u)) : Inv u := by
  obtain ⟨l, rfl⟩ := fetch_eq_setHost h
  exact hs.setHost l

end

/-- Settles O48: whichever agent's move a step runs, and when it waits, the invariant is kept. -/
theorem invariantKeptByStep : Obligations.InvariantKeptByStep := by
  intro s t hs h
  obtain ⟨-, rfl⟩ | ⟨c, u, i, hf, hd, hx⟩ | ⟨c, u, hf, -, rfl⟩ | ⟨c, u, hf, -, rfl⟩ := step_cases h
  · exact hs.setHost _
  · have hi : i ≠ .init := by
      rintro rfl
      exact decode_fetch_ne_init hf hd
    exact exec_inv hi (hs.of_fetch hf) hx
  · exact hs.of_fetch hf
  · exact (hs.of_fetch hf).setOut _

end Sys2Proof.Machine
end

section
/-! SUPPORT. The statements of 20_memory.md: the length field in the words of the last block (O28), and the field out, which reads and
functions alone write and the core never looks at (O55). -/

namespace Sys2Proof.Machine

/-! ### The length field in the last block -/

/-- R83: the value of the length field. -/
theorem lengthField_toNat (l : Nat) : (lengthField l).toNat = 8 * l % 2 ^ 64 :=
  BitVec.toNat_ofNat ..

/-- R84: the last eight addresses of the padded buffer lie above the message and the byte 0x80. -/
theorem pbByte_lengthField (mem : Memory) (l : Nat) {j : Nat} (h : j < 8) :
    pbByte mem l (64 * blocks l - 8 + j) = some (byteOf (lengthField l) j) := by
  have hN : l + 9 ≤ 64 * blocks l := by
    rw [blocks]
    omega
  rw [pbByte, if_neg (by omega), if_neg (by omega), if_neg (by omega), if_pos (by omega), Nat.add_sub_cancel_left]

/-- R10, R40: four neighbouring bytes of a value, put together little-endian, are 32 neighbouring bits of it. -/
theorem le32_byteOf {n : Nat} (v : BitVec n) (j : Nat) :
    le32 (byteOf v j) (byteOf v (j + 1)) (byteOf v (j + 2)) (byteOf v (j + 3)) = v.extractLsb' (8 * j) 32 := by
  have hdiv : ∀ k, v.toNat / 2 ^ (8 * (j + k)) = v.toNat / 2 ^ (8 * j) / 2 ^ (8 * k) := fun k => by
    rw [Nat.div_div_eq_div_mul, ← pow_add, mul_add]
  apply BitVec.eq_of_toNat_eq
  simp only [le32_toNat_eq, byteOf_toNat, hdiv, BitVec.extractLsb'_toNat, Nat.shiftRight_eq_div_pow]
  omega

/-- R41: a word read from byte j of the length field is its 32 bits from 8j up; at j = 0 and 4 these are its two halves. -/
theorem pbWord_lengthField (mem : Memory) (l : Nat) {j : Nat} (h : j ≤ 4) :
    pbWord mem l (64 * blocks l - 8 + j) = some ((lengthField l).extractLsb' (8 * j) 32) := by
  have hb : ∀ k, k < 4 → pbByte mem l (64 * blocks l - 8 + j + k) = some (byteOf (lengthField l) (j + k)) := fun k hk => by
    rw [Nat.add_assoc]
    exact pbByte_lengthField mem l (by omega)
  have h0 : pbByte mem l (64 * blocks l - 8 + j) = some (byteOf (lengthField l) j) := hb 0 (by decide)
  rw [pbWord, h0, hb 1 (by decide), hb 2 (by decide), hb 3 (by decide)]
  exact congrArg some (le32_byteOf ..)

/-- R41, R62: what LOAD decodes from the last block holds the length field's halves in its last two words. -/
theorem blockWords_last {mem : Memory} {l n : Nat} {x : Vector Word 16} (hn : n + 1 = blocks l) (hx : blockWords mem l n = some x) :
    x[14] = (lengthField l).extractLsb' 0 32 ∧ x[15] = (lengthField l).extractLsb' 32 32 := by
  have hword : ∀ k : Fin 16, pbWord mem l (64 * n + 4 * k.val) = some x[k] := allSome_eq_some.mp hx
  have hlow : 64 * n + 4 * 14 = 64 * blocks l - 8 + 0 := by omega
  have hhigh : 64 * n + 4 * 15 = 64 * blocks l - 8 + 4 := by omega
  constructor
  · exact Option.some.inj ((hword 14).symm.trans (hlow ▸ pbWord_lengthField mem l (by decide)))
  · exact Option.some.inj ((hword 15).symm.trans (hhigh ▸ pbWord_lengthField mem l (by decide)))

/-- Settles O28: X[14] and X[15] are the two halves of the length field, whose value is 8L modulo 2^64. -/
theorem lastBlockHoldsTheLength : Obligations.LastBlockHoldsTheLength := by
  intro s t _ hn h
  obtain ⟨-, -, x, hx, rfl⟩ := execLoad_next h
  obtain ⟨hlow, hhigh⟩ := blockWords_last hn hx
  rw [State.goTo_x, State.setX_x, hlow, hhigh]
  simp only [BitVec.extractLsb'_toNat, lengthField_toNat, Nat.shiftRight_eq_div_pow]
  omega

/-! ### The field out -/

/-- The state with another value returned, or none, in the field out (log 9). -/
def State.withOut (s : State) (v : Option Value) : State := { s with out := v }

section
variable {s t : State} (v : Option Value)

theorem execLoad_withOut (h : execLoad s = .next t) : execLoad (s.withOut v) = .next (t.withOut v) := by
  obtain ⟨hp, hn, x, hx, rfl⟩ := execLoad_next h
  exact execLoad_pos hp hn hx

theorem execSave_withOut (h : execSave s = .next t) : execSave (s.withOut v) = .next (t.withOut v) := by
  obtain ⟨hp, rfl⟩ := execSave_next_iff.mp h
  exact execSave_next_iff.mpr ⟨hp, rfl⟩

theorem withOut_afterOperation (s : State) : s.afterOperation.withOut v = (s.withOut v).afterOperation := by
  unfold State.afterOperation
  exact apply_ite (State.withOut · v) ..

theorem runOperation_withOut {d : Descr} (h : runOperation d s = .next t) :
    runOperation d (s.withOut v) = .next (t.withOut v) := by
  obtain ⟨hp, hi, rfl⟩ := runOperation_next h
  rw [withOut_afterOperation]
  exact runOperation_pos hp hi

theorem withOut_afterFeed (s : State) : s.afterFeed.withOut v = (s.withOut v).afterFeed := by
  unfold State.afterFeed
  exact apply_ite (State.withOut · v) ..

theorem execFeed_withOut (h : execFeed s = .next t) : execFeed (s.withOut v) = .next (t.withOut v) := by
  obtain ⟨hp, rfl⟩ := whenPhase_next_iff.mp h
  rw [withOut_afterFeed]
  exact whenPhase_pos _ hp

theorem execFmt_withOut (h : execFmt s = .next t) : execFmt (s.withOut v) = .next (t.withOut v) := by
  obtain ⟨hp, rfl⟩ := execFmt_next_iff.mp h
  exact execFmt_next_iff.mpr ⟨hp, rfl⟩

/-- R47, R208: whichever operation a busy core runs, it carries the field out along unread. -/
theorem step_withOut (hh : s.host = []) (hb : busy s.phase = true) (h : step s = .next t) :
    step (s.withOut v) = .next (t.withOut v) := by
  cases hp : s.phase with
  | load =>
    rw [step_load hh hp] at h
    exact (step_load (s := s.withOut v) hh hp).trans (execLoad_withOut v h)
  | save =>
    rw [step_save hh hp] at h
    exact (step_save (s := s.withOut v) hh hp).trans (execSave_withOut v h)
  | step =>
    rw [step_operation hh hp] at h
    exact (step_operation (s := s.withOut v) hh hp).trans (runOperation_withOut v h)
  | feed =>
    rw [step_feed hh hp] at h
    exact (step_feed (s := s.withOut v) hh hp).trans (execFeed_withOut v h)
  | fmt =>
    rw [step_fmt hh hp] at h
    exact (step_fmt (s := s.withOut v) hh hp).trans (execFmt_withOut v h)
  | idle | done | err => rw [hp] at hb; cases hb

end

/-- Settles O55: a read or a function writes out alone, and each operation of the core commutes with writing it. -/
theorem hostReadsDisturbNothing : Obligations.HostReadsDisturbNothing := by
  refine ⟨fun i s t hi h => ?_, fun _ _ v => step_withOut v⟩
  obtain ⟨v, rfl⟩ := exec_returnsOnly_next hi h
  rfl

end Sys2Proof.Machine
end

section
/-! SUPPORT. The statements of 30_encoding.md: decode against encode (O1), the host commands (O2, O5), the opidx and its fields (O3), a
few codes written out (O4), and operand assembly (O14). -/

namespace Sys2Proof.Machine

open Sys2Proof.Claims

/-! ### Decode of encode -/

/-- R65, R67, R68: the bounds `wellFormed` puts on operands are the ones the decoder tests. -/
theorem decode_encode_iff (i : Instr) : decode (encode i) = .op i ↔ i.wellFormed = true := by
  cases i with
  | rdDigest m => simp [encode, decode, decodeAccess, decodeRead, Instr.wellFormed]
  | rdHex q => simp [encode, decode, decodeAccess, decodeRead, Instr.wellFormed]
  | trom n => simp [encode, decode, Instr.wellFormed]
  | _ => exact iff_of_true rfl rfl

/-! ### Encode of decode, one selector at a time -/

section
variable {i : Instr}

theorem decodeCtrlWrite_eq_op {w : Nat} (h : decodeCtrlWrite w = .op i) :
    (w.testBit 1 = true ∧ i = .reset) ∨ (w.testBit 1 = false ∧ w.testBit 0 = true ∧ i = .start) := by
  unfold decodeCtrlWrite at h
  split at h
  next h1 => exact .inl ⟨h1, (Decoded.op.inj h).symm⟩
  next h1 =>
    split at h
    next h0 => exact .inr ⟨Bool.eq_false_of_not_eq_true h1, h0, (Decoded.op.inj h).symm⟩
    next => cases h

theorem decodeWrite_eq_op {reg v : Nat} (h : decodeWrite reg v = .op i) :
    (reg = 0 ∧ decodeCtrlWrite v = .op i) ∨ (reg = 3 ∧ i = .wrLen v) := by
  unfold decodeWrite at h
  split at h
  case h_1 => exact .inl ⟨rfl, h⟩
  case h_6 => exact .inr ⟨rfl, (Decoded.op.inj h).symm⟩
  all_goals cases h

theorem decodeScalarRead_eq_op {reg idx : Nat} {d : Decoded} (h : decodeScalarRead reg idx d = .op i) : idx = 0 ∧ d = .op i := by
  unfold decodeScalarRead at h
  split at h
  · exact ⟨‹_›, h⟩
  · cases h

/-- R68, R201: a read has one code, its register number and its cell. -/
theorem encode_of_decodeRead {reg idx : Nat} (h : decodeRead reg idx = .op i) : encode i = .access (.read reg idx) := by
  unfold decodeRead at h
  split at h
  case h_1 => cases (decodeScalarRead_eq_op h).2
  case h_2 | h_3 | h_4 =>
    obtain ⟨rfl, hi⟩ := decodeScalarRead_eq_op h
    cases hi
    rfl
  case h_5 | h_6 =>
    split at h
    · cases h
      rfl
    · cases h
  case h_7 => cases h

/-- R67: a phase other than STEP selects its row alone, the opidx being unread. -/
theorem encode_of_decodeSequencer {p : Phase} {idx : BitVec 6} (hp : p ≠ .step) (h : decodeSequencer p idx = .op i) :
    encode i = .sequencer p 0 := by
  cases p with
  | step => exact absurd rfl hp
  | load | save | feed | fmt => cases h; rfl
  | idle | done | err => cases h

theorem decodeSequencer_opidx_unread {p : Phase} (hp : p ≠ .step) (idx idx' : BitVec 6) :
    decodeSequencer p idx = decodeSequencer p idx' := by
  cases p with
  | step => exact absurd rfl hp
  | _ => rfl

/-- R65: the round function a 2-bit round number selects has that number as its code. -/
theorem encode_decodeFunc (fn : BitVec 2) (x y z : Word) : encode (decodeFunc fn x y z) = .func fn x y z := by
  obtain ⟨n, hn, rfl⟩ : ∃ n < 4, fn = BitVec.ofNat 2 n := ⟨fn.toNat, fn.isLt, by simp⟩
  interval_cases n <;> rfl

/-- The codes in which the rules leave something free: how RESET is asked for, the bits of a CTRL write that do not decide, the opidx
outside STEP. -/
def FreeCode (c : Code) (i : Instr) : Prop :=
  (i = .reset ∧ (c = .resetInput ∨ ∃ w : Nat, w.testBit 1 = true ∧ c = .access (.write 0 w))) ∨
  (i = .start ∧ ∃ w : Nat, w.testBit 1 = false ∧ w.testBit 0 = true ∧ c = .access (.write 0 w)) ∨
  (∃ p j, p ≠ .step ∧ c = .sequencer p j ∧ encode i = .sequencer p 0)

theorem eq_encode_or_freeCode_of_write {reg v : Nat} (h : decodeWrite reg v = .op i) :
    .access (.write reg v) = encode i ∨ FreeCode (.access (.write reg v)) i := by
  obtain ⟨rfl, hw⟩ | ⟨rfl, rfl⟩ := decodeWrite_eq_op h
  · obtain ⟨h1, rfl⟩ | ⟨h1, h0, rfl⟩ := decodeCtrlWrite_eq_op hw
    · exact .inr (.inl ⟨rfl, .inr ⟨v, h1, rfl⟩⟩)
    · exact .inr (.inr (.inl ⟨rfl, v, h1, h0, rfl⟩))
  · exact .inl rfl

theorem eq_encode_or_freeCode_of_sequencer {p : Phase} {idx : BitVec 6} (h : decodeSequencer p idx = .op i) :
    .sequencer p idx = encode i ∨ FreeCode (.sequencer p idx) i := by
  by_cases hp : p = .step
  · subst hp
    cases h
    exact .inl (encode_decodeOpidx idx).symm
  · exact .inr (.inr (.inr ⟨p, idx, hp, rfl, encode_of_decodeSequencer hp h⟩))

/-- R65, R67, R68: a code that decodes to an instruction is that instruction's code but for what the rules leave free. -/
theorem eq_encode_or_freeCode {c : Code} (h : decode c = .op i) : c = encode i ∨ FreeCode c i := by
  cases c with
  | access a =>
    cases a with
    | write reg v => exact eq_encode_or_freeCode_of_write h
    | read reg idx => exact .inl (encode_of_decodeRead h).symm
    | writeMsg p b => cases h; exact .inl rfl
  | sequencer p idx => exact eq_encode_or_freeCode_of_sequencer h
  | resetInput => cases h; exact .inr (.inl ⟨rfl, .inl rfl⟩)
  | func fn x y z => cases h; exact .inl (encode_decodeFunc fn x y z).symm
  | rom n =>
    simp only [decode] at h
    split at h
    · cases h; exact .inl rfl
    · cases h
  | startInit | padder => cases h; exact .inl rfl
  | unmapped addr => cases h

/-- What the rules leave free in a code does not matter to the decoder: the instruction's own code decodes to it too. -/
theorem FreeCode.decode_encode {c : Code} (hf : FreeCode c i) (h : decode c = .op i) : decode (encode i) = .op i := by
  obtain ⟨rfl, -⟩ | ⟨rfl, -⟩ | ⟨p, j, hp, rfl, he⟩ := hf
  · rfl
  · rfl
  · rw [he]
    exact (decodeSequencer_opidx_unread hp 0 j).trans h

/-- The decoder gives no instruction with an operand out of bounds. -/
theorem decode_wellFormed {c : Code} (h : decode c = .op i) : i.wellFormed = true := by
  rw [← decode_encode_iff]
  obtain rfl | hf := eq_encode_or_freeCode h
  · exact h
  · exact hf.decode_encode h

end

/-- Settles O1: the decoder inverts the encoder exactly on the well-formed instructions, and each selector that decodes is the encoder's
choice or differs from it in a free part. -/
theorem decodeAndEncodeAgree : Obligations.DecodeAndEncodeAgree :=
  ⟨fun i => (decode_encode_iff i).mpr, fun _ _ h => ⟨decode_wellFormed h, eq_encode_or_freeCode h⟩⟩

/-! ### Host commands and accesses -/

/-- R68: bits 1 and 0 alone decide what a CTRL write is. -/
theorem decodeCtrlWrite_mod_four (w : Nat) : decodeCtrlWrite (w % 4) = decodeCtrlWrite w := by
  simp only [decodeCtrlWrite, show 4 = 2 ^ 2 from rfl, Nat.testBit_mod_two_pow]
  rfl

/-- Settles O2: the CTRL rule by its two bits; each register by its number, an output's cell within its bound. -/
theorem hostCommandEncoding : Obligations.HostCommandEncoding := by
  refine ⟨fun _ => rfl, fun w v h => ?_, rfl, rfl, rfl, fun _ => rfl, fun _ hm => if_pos hm, fun _ hq => if_pos hq, fun _ _ => rfl⟩
  change decodeCtrlWrite w = decodeCtrlWrite v
  rw [← decodeCtrlWrite_mod_four, h, decodeCtrlWrite_mod_four]

section
variable {s : State} {a : Access} {rest : List HostMove}

theorem step_issues_reject {why : Reject} (h : s.issues a rest) (hd : decodeAccess a = .reject why) :
    step s = .refused (.rejected why) := by
  simp only [step, fetch_issues h, decode, hd]

theorem step_issues_ctrlNone (h : s.issues a rest) (hd : decodeAccess a = .ctrlNone) : step s = .next (s.setHost rest) := by
  simp only [step, fetch_issues h, decode, hd, ctrlNone]

theorem step_issues_ctrlRead (h : s.issues a rest) (hd : decodeAccess a = .ctrlRead) :
    step s = .next ((s.setHost rest).setOut (.ctrl 0)) := by
  simp only [step, fetch_issues h, decode, hd, ctrlRead]

end

/-- R69: a register number above 5 selects nothing, in either direction. -/
theorem decode_noSuchRegister {r : Nat} (h : 5 < r) (v : Nat) :
    decodeWrite r v = .reject (.noSuchRegister r) ∧ decodeRead r v = .reject (.noSuchRegister r) := by
  obtain ⟨n, rfl⟩ := Nat.exists_eq_add_of_lt h
  rw [show 5 + n + 1 = n + 6 by omega]
  exact ⟨rfl, rfl⟩

theorem decodeWrite_readOnly {r : Nat} (h : r ∈ [1, 2, 4, 5]) (v : Nat) : decodeWrite r v = .reject (.readOnlyRegister r) := by
  simp only [List.mem_cons, List.not_mem_nil, or_false] at h
  obtain rfl | rfl | rfl | rfl := h <;> rfl

theorem decodeCtrlWrite_none {w : Nat} (h : w % 4 = 0) : decodeCtrlWrite w = .ctrlNone := by
  rw [← decodeCtrlWrite_mod_four, h]
  rfl

/-- Settles O5: the pending access is fetched in every state, and what it decodes to is settled by its register number and its value. -/
theorem accessesThatSelectNothing : Obligations.AccessesThatSelectNothing := by
  intro s rest r v
  exact ⟨fun hr h => step_issues_reject h (decode_noSuchRegister hr v).1,
    fun hr h => step_issues_reject h (decode_noSuchRegister hr v).2,
    fun hr h => step_issues_reject h (decodeWrite_readOnly hr v),
    fun hv h => step_issues_reject h (if_neg hv.not_gt),
    fun hv h => step_issues_reject h (if_neg hv.not_gt),
    fun hv h => step_issues_ctrlNone h (decodeCtrlWrite_none hv),
    fun h => step_issues_ctrlRead h rfl⟩

/-! ### The opidx and the operands it assembles -/

theorem roundOf_lt (idx : BitVec 6) : roundOf idx < 4 :=
  Nat.div_lt_of_lt_mul idx.isLt

theorem roundOf_eq_extractLsb' (idx : BitVec 6) : roundOf idx = (idx.extractLsb' 4 2).toNat := by
  rw [BitVec.extractLsb'_toNat, Nat.shiftRight_eq_div_pow]
  exact (Nat.mod_eq_of_lt (roundOf_lt idx)).symm

theorem positionOf_eq_extractLsb' (idx : BitVec 6) : positionOf idx = (idx.extractLsb' 0 4).toNat := by
  rw [BitVec.extractLsb'_toNat]
  rfl

/-- R66: `fn = [F, G, H, I][r]`. -/
theorem roundFns_getElem? {r : Nat} (h : r < 4) : [RoundFn.f, .g, .h, .i][r]? = some (fnOf r) := by
  interval_cases r <;> rfl

/-- Settles O3: the fields are quotient and remainder by 16, and all 64 values are codes of operations. -/
theorem opIndexFields : Obligations.OpIndexFields := by
  intro idx
  refine ⟨?_, roundOf_eq_extractLsb' idx, positionOf_eq_extractLsb' idx, ?_, ?_, rfl, encode_decodeOpidx idx⟩
  · rintro s rfl
    exact ⟨rfl, Nat.le_add_left 1 _, s.opidx.isLt⟩
  · rw [← roundOf_eq_extractLsb']
    exact roundFns_getElem? (roundOf_lt idx)
  · rw [roundOf, positionOf, Nat.div_add_mod]

/-- Settles O4: the codes are fixed, so the decoder's answers are computed. -/
theorem someCodesDecode : Obligations.SomeCodesDecode := by
  unfold Obligations.SomeCodesDecode
  decide

/-- The K lists of the four rounds, as the source prints them (R66). -/
def kLists : List (List (Fin 16)) :=
  [[0, 1, 2, 3, 4, 5, 6, 7, 8, 9, 10, 11, 12, 13, 14, 15], [1, 6, 11, 0, 5, 10, 15, 4, 9, 14, 3, 8, 13, 2, 7, 12],
    [5, 8, 11, 14, 1, 4, 7, 10, 13, 0, 3, 6, 9, 12, 15, 2], [0, 7, 14, 5, 12, 3, 10, 1, 8, 15, 6, 13, 4, 11, 2, 9]]

/-- R66: the closed forms "reproduce the K lists exactly". -/
theorem kLists_getElem? : ∀ r < 4, ∀ j < 16, kLists[r]?.bind (·[j]?) = some (kOf r j) := by decide

theorem kOf_closedForm {r j : Nat} (hr : r < 4) (hj : j < 16) :
    [j, (1 + 5 * j) % 16, (5 + 3 * j) % 16, 7 * j % 16][r]? = some (kOf r j).val := by
  interval_cases r
  · exact congrArg some (Nat.mod_eq_of_lt hj).symm
  all_goals rfl

/-- R66: the amount is the (j mod 4)-th element of the round's shift cycle. -/
theorem shiftCycles_getElem? : ∀ r < 4, ∀ j < 16,
    [[7, 12, 17, 22], [5, 9, 14, 20], [4, 11, 16, 23], [6, 10, 15, 21]][r]?.bind (·[j % 4]?) = some (sOf r j) := by decide

theorem sOf_bounds (r j : Nat) : 0 < sOf r j ∧ sOf r j < 32 := by
  unfold sOf
  split <;> decide

/-- R106: the destinations go A, D, C, B in turn. -/
theorem dstOf_getElem? : ∀ j < 16, ([0, 3, 2, 1] : List (Fin 4))[j % 4]? = some (dstOf j) := by decide

/-- R95: OPi reads T[i]. -/
theorem trom?_opidx_succ (idx : BitVec 6) : trom? (idx.toNat + 1) = some (romAt idx) :=
  List.getElem?_eq_getElem _

/-- R65, R66: the descriptor of 16r + j, whose round is r and whose position is j. -/
theorem descrOf_eq {idx : BitVec 6} {r j : Nat} (hj : j < 16) (h : idx.toNat = 16 * r + j) :
    descrOf idx = ⟨idx, fnOf r, kOf r j, sOf r j, dstOf j⟩ := by
  have hr : roundOf idx = r := by unfold roundOf; omega
  have hp : positionOf idx = j := by unfold positionOf; omega
  rw [descrOf, hr, hp]

/-- Settles O14: each field of the descriptor is read off the round and the position. -/
theorem operandAssembly : Obligations.OperandAssembly := by
  refine ⟨fun r j idx hr hj h => ?_, fun idx => sOf_bounds _ _⟩
  rw [descrOf_eq hj h, ← h]
  exact ⟨rfl, roundFns_getElem? hr, kLists_getElem? r hr j hj, shiftCycles_getElem? r hr j hj, kOf_closedForm hr hj,
    dstOf_getElem? j hj, rfl, trom?_opidx_succ idx⟩

end Sys2Proof.Machine
end

section
/-! SUPPORT. The statements of 40_preprocessor.md: what PAD returns (O21), the byte function PB (O22), the block count (O23), and the
length field (O24). -/

namespace Sys2Proof.Machine

/-! ### The block count -/

/-- R82: the message, 0x80, the zero bytes and the length field fill N blocks. -/
theorem blocks_mul (l : Nat) : 64 * blocks l = l + 9 + (55 + 64 - l % 64) % 64 := by
  rw [blocks]
  omega

/-- Settles O23: each clause is arithmetic in the total length, whose zero bytes number at most 63. -/
theorem blockCount : Obligations.BlockCount := by
  intro l
  have hN := blocks_mul l
  refine ⟨hN, ?_, ?_, ?_, ?_, fun h => ?_, fun h => ?_⟩ <;> omega

/-! ### The padded buffer -/

/-- R80, R81: the padded buffer, part by part, with the rule's count of zero bytes. -/
theorem padMessage_eq_parts (m : List Byte) :
    padMessage m =
      m ++ [0x80] ++ List.replicate ((55 + 64 - m.length % 64) % 64) 0x00 ++ le64bytes (lengthField m.length) := by
  have hzeros : (55 + 64 - m.length % 64) % 64 = 63 - (m.length + 8) % 64 := by omega
  rw [padMessage_eq, hzeros, List.append_assoc, List.append_assoc, List.singleton_append]

/-- R80: PAD of a message whose bytes all have a value. -/
theorem execPad_eq {s : State} {m : List Byte} (h : Memory.readBytes s.msg 0 s.len = some m) :
    execPad s = .next (s.setOut (.buffer (padMessage m))) := by
  rw [execPad, h]

/-- Settles O21: PAD returns the buffer of the bytes `readBytes` gives, and the loop that builds it appends R81's count of zeros. -/
theorem padBuildsTheBuffer : Obligations.PadBuildsTheBuffer := by
  intro s m h
  obtain ⟨hlen, hread⟩ := Memory.readBytes_some h
  refine ⟨execPad_eq h, hlen, fun p hp => ?_, padMessage_eq_parts m, padMessage_eq_parts _⟩
  rw [hread p hp, Nat.zero_add]

/-- Settles O22: the buffer fills its N blocks, and the byte function follows its parts; above them both have no byte. -/
theorem paddedBufferAsByteFunction : Obligations.PaddedBufferAsByteFunction := by
  intro mem l m h
  obtain ⟨rfl, -⟩ := Memory.readBytes_some h
  exact ⟨padMessage_length m, pbByte_eq_padMessage h⟩

/-! ### The length field -/

/-- R83: 8 × 2^61 = 2^64, so the length field wraps at L = 2^61. -/
theorem lengthField_add_two_pow (l : Nat) : lengthField (l + 2 ^ 61) = lengthField l := by
  apply BitVec.eq_of_toNat_eq
  rw [lengthField_toNat, lengthField_toNat]
  omega

/-- R10: byte j of a value, written as the number (v >> 8j) mod 256. -/
theorem byteOf_eq_ofNat {n : Nat} (w : BitVec n) (j : Nat) : byteOf w j = BitVec.ofNat 8 ((w.toNat >>> (8 * j)) % 256) := by
  rw [← byteOf_toNat_shiftRight, BitVec.ofNat_toNat, BitVec.setWidth_eq]

/-- Settles O24: the value is 8L mod 2^64, and PB's last eight bytes are its bytes. -/
theorem lengthFieldIsTheBitLength : Obligations.LengthField := by
  refine ⟨fun l => ⟨lengthField_toNat l, lengthField_add_two_pow l⟩, fun mem l j hj => ?_, ?_, rfl, rfl⟩
  · rw [pbByte_lengthField mem l hj, byteOf_eq_ofNat, lengthField_toNat]
  · exact lengthField_add_two_pow 0

end Sys2Proof.Machine
end

section
/-! SUPPORT. The statements of 41_round_functions.md: the functions F (O7), G (O8), H (O9) and I (O10), bit by bit and at the corner
cases of their rules, and the operations that use them. -/

namespace Sys2Proof.Machine

/-! ### The round function of an operation -/

/-- R65, R66: the sixteen operations of round r use its function. -/
theorem descrOf_fn_of_round {idx : BitVec 6} (r : Nat) (hlo : 16 * r ≤ idx.toNat) (hhi : idx.toNat < 16 * r + 16) :
    (descrOf idx).fn = fnOf r := by
  have hj : idx.toNat - 16 * r < 16 := by omega
  have hidx : idx.toNat = 16 * r + (idx.toNat - 16 * r) := by omega
  rw [descrOf_eq hj hidx]

section
variable (x y z : Word)

/-! ### F -/

/-- R91: a multiplexer selected by X. -/
theorem roundF_getLsbD {n : Nat} (hn : n < 32) :
    (roundF x y z).getLsbD n = if x.getLsbD n = true then y.getLsbD n else z.getLsbD n := by
  simp only [roundF, BitVec.getLsbD_or, BitVec.getLsbD_and, BitVec.getLsbD_not, hn]
  cases x.getLsbD n <;> simp

theorem roundF_zero_left : roundF 0 y z = z := by
  rw [roundF, BitVec.ofNat_eq_ofNat, BitVec.zero_and, BitVec.not_zero, BitVec.allOnes_and, BitVec.zero_or]

theorem roundF_allOnes_left : roundF (BitVec.allOnes 32) y z = y := by
  rw [roundF, BitVec.allOnes_and, BitVec.not_allOnes, BitVec.zero_and, BitVec.or_zero]

theorem roundF_same_right : roundF x y y = y :=
  BitVec.eq_of_getLsbD_eq fun n hn => by rw [roundF_getLsbD x y y hn, ite_self]

/-- R91: X and NOT X are complementary, so the two ORed terms are never both 1 at one bit. -/
theorem roundF_terms_disjoint : (x &&& y) &&& (~~~x &&& z) = 0 :=
  calc (x &&& y) &&& (~~~x &&& z)
    _ = (x &&& ~~~x) &&& (y &&& z) := by ac_rfl
    _ = 0 := by rw [BitVec.and_not_self, BitVec.ofNat_eq_ofNat, BitVec.zero_and]

/-- Where no bit is 1 in both words, OR may be replaced by XOR. -/
theorem or_eq_xor_of_and_eq_zero {v w : Word} (h : v &&& w = 0) : v ||| w = v ^^^ w := by
  apply BitVec.eq_of_getLsbD_eq
  intro n hn
  have hbit : (v.getLsbD n && w.getLsbD n) = false := by
    rw [← BitVec.getLsbD_and, h, BitVec.ofNat_eq_ofNat, BitVec.getLsbD_zero]
  rw [BitVec.getLsbD_or, BitVec.getLsbD_xor]
  cases hv : v.getLsbD n with
  | false => rw [Bool.false_or, Bool.false_xor]
  | true =>
    rw [hv, Bool.true_and] at hbit
    rw [hbit, Bool.or_false, Bool.xor_false]

/-! ### G -/

/-- R92: "from rule R91 by renaming". -/
theorem roundG_eq_roundF : roundG x y z = roundF z x y := by
  rw [roundG, roundF, BitVec.and_comm x, BitVec.and_comm y]

/-! ### H -/

/-- R93: the parity of the three bits. -/
theorem roundH_getLsbD (n : Nat) : (roundH x y z).getLsbD n = (x.getLsbD n ^^ y.getLsbD n ^^ z.getLsbD n) := by
  rw [roundH, BitVec.getLsbD_xor, BitVec.getLsbD_xor]

theorem roundH_swap_left : roundH x y z = roundH y x z := by
  rw [roundH, roundH, BitVec.xor_comm x]

theorem roundH_swap_right : roundH x y z = roundH x z y := by
  rw [roundH, roundH, BitVec.xor_assoc, BitVec.xor_comm y, BitVec.xor_assoc]

theorem roundH_same_left : roundH x x z = z := by
  rw [roundH, BitVec.xor_self, BitVec.zero_xor]

/-! ### I -/

/-- R94: the Y bit, inverted unless the X bit is 0 and the Z bit is 1. -/
theorem roundI_getLsbD {n : Nat} (hn : n < 32) :
    (roundI x y z).getLsbD n = if x.getLsbD n = false ∧ z.getLsbD n = true then y.getLsbD n else !(y.getLsbD n) := by
  simp only [roundI, BitVec.getLsbD_xor, BitVec.getLsbD_or, BitVec.getLsbD_not, hn]
  cases x.getLsbD n <;> cases z.getLsbD n <;> simp

/-- R94: where X OR NOT Z has all its bits set, I is NOT Y. -/
theorem roundI_eq_not {x y z : Word} (h : x ||| ~~~z = BitVec.allOnes 32) : roundI x y z = ~~~y := by
  rw [roundI, h, BitVec.xor_allOnes]

/-- R94: where X is 0 and Z has all its bits set, no bit of Y is inverted. -/
theorem roundI_zero_allOnes : roundI 0 y (BitVec.allOnes 32) = y := by
  rw [roundI, BitVec.not_allOnes, BitVec.ofNat_eq_ofNat, BitVec.or_zero, BitVec.xor_zero]

end

/-! ### The rules, whole -/

/-- Settles O7: the multiplexer bit by bit; OR, XOR and addition agree on the two terms because these are disjoint. -/
theorem roundFunctionF : Obligations.RoundFunctionF := by
  refine ⟨fun x y z s => ?_, fun i hi => descrOf_fn_of_round 0 (Nat.zero_le _) hi, by decide, by decide⟩
  have hdisj := roundF_terms_disjoint x y z
  exact ⟨rfl, rfl, fun n => roundF_getLsbD x y z, hdisj, or_eq_xor_of_and_eq_zero hdisj,
    (BitVec.add_eq_or_of_and_eq_zero _ _ hdisj).symm, roundF_zero_left y z, roundF_allOnes_left y z, roundF_same_right x y⟩

/-- Settles O8: G is F with its operands renamed, so its bits and corner cases are F's. -/
theorem roundFunctionG : Obligations.RoundFunctionG := by
  refine ⟨fun x y z s => ⟨rfl, rfl, fun n hn => ?_, roundG_eq_roundF x y z, ?_, ?_, ?_⟩,
    fun i hlo hhi => descrOf_fn_of_round 1 hlo hhi, by decide, by decide⟩
  all_goals rw [roundG_eq_roundF]
  · exact roundF_getLsbD z x y hn
  · exact roundF_zero_left x y
  · exact roundF_allOnes_left x y
  · exact roundF_same_right z x

/-- Settles O9: the laws of XOR. -/
theorem roundFunctionH : Obligations.RoundFunctionH := by
  refine ⟨fun x y z s => ?_, fun i hlo hhi => descrOf_fn_of_round 2 hlo hhi, by decide, by decide⟩
  exact ⟨rfl, rfl, fun n _ => roundH_getLsbD x y z n, roundH_swap_left x y z, roundH_swap_right x y z, BitVec.xor_assoc x y z,
    roundH_same_left x z, BitVec.xor_zero, roundH_same_left x x⟩

/-- Settles O10: at three of the four corner cases X OR NOT Z is all ones, and at the fourth it is 0. -/
theorem roundFunctionI : Obligations.RoundFunctionI := by
  refine ⟨fun x y z s => ?_, fun i hlo => descrOf_fn_of_round 3 hlo i.isLt, by decide, by decide, by decide, by decide⟩
  exact ⟨rfl, rfl, fun n => roundI_getLsbD x y z, roundI_eq_not BitVec.or_allOnes, roundI_eq_not BitVec.allOnes_or,
    roundI_zero_allOnes y, roundI_eq_not (BitVec.or_not_self x)⟩

end Sys2Proof.Machine
end

section
/-! SUPPORT. The statements of 42_constant_table.md: TROM returns the floors of the sines (O11), and the whole-table checks of the
ROM's contents (O12). -/

namespace Sys2Proof.Machine

open Sys2Proof.Laws

/-! ### The lookup -/

/-- R95, 93 U8: the table is 1-indexed and has 64 entries. -/
theorem trom?_eq_none {i : Nat} (h : i = 0 ∨ 64 < i) : trom? i = none := by
  obtain rfl | h := h
  · rfl
  · obtain ⟨n, rfl⟩ := Nat.exists_eq_add_one.mpr (Nat.zero_lt_of_lt h)
    exact List.getElem?_eq_none (rom_length ▸ Nat.le_of_lt_succ h)

/-- R95: an index with an entry returns it. -/
theorem exec_trom_of_some {i : Nat} {w : Word} (s : State) (h : trom? i = some w) :
    exec (.trom i) s = .next (s.setOut (.word w)) := by
  change execTrom i s = _
  rw [execTrom, h]

/-- 93 U8: an index without an entry is refused. -/
theorem exec_trom_of_none {i : Nat} (s : State) (h : trom? i = none) : exec (.trom i) s = .refused .noSuchConstant := by
  change execTrom i s = _
  rw [execTrom, h]

/-! ### The entries and the sine -/

/-- One step of the recurrence `cosSinApprox` follows. -/
def cosSinNext (p : Int × Int) : Int × Int :=
  ((p.1 * cosOne - p.2 * sinOne) / sineScale, (p.2 * cosOne + p.1 * sinOne) / sineScale)

theorem cosSinApprox_succ (n : Nat) : cosSinApprox (n + 1) = cosSinNext (cosSinApprox n) :=
  rfl

/-- The two hypotheses of `approx_decides`: 2^32 times the interval of 2^66 units either side of |y| lies in [t, t + 1). -/
def brackets (t : Nat) (y : Int) : Bool :=
  decide ((t : Int) * sineScale ≤ 2 ^ 32 * (|y| - 2 ^ 66) ∧ 2 ^ 32 * (|y| + 2 ^ 66) < ((t : Int) + 1) * sineScale)

theorem eq_floor_of_brackets {t n : Nat} (hn : n ≤ 64) (h : brackets t (cosSinApprox n).2 = true) :
    t = ⌊2 ^ 32 * |Real.sin n|⌋₊ := by
  obtain ⟨hlow, hhigh⟩ := of_decide_eq_true h
  exact approx_decides t n hn hlow hhigh

/-- Each word in turn brackets the next sine. The pass carries the recurrence along the table, so that each approximation is computed
once. -/
def allBracket (p : Int × Int) : List Word → Bool
  | [] => true
  | w :: ws => brackets w.toNat (cosSinNext p).2 && allBracket (cosSinNext p) ws

/-- The pass from n on compares entry k with the approximation of sin(n + k + 1). -/
theorem brackets_of_allBracket {ws : List Word} {n k : Nat} (h : allBracket (cosSinApprox n) ws = true) (hk : k < ws.length) :
    brackets ws[k].toNat (cosSinApprox (n + k + 1)).2 = true := by
  induction ws generalizing n k with
  | nil => exact absurd hk (Nat.not_lt_zero k)
  | cons w ws ih =>
    obtain ⟨hw, hws⟩ := Bool.and_eq_true_iff.mp h
    cases k with
    | zero => exact hw
    | succ k =>
      rw [← cosSinApprox_succ] at hws
      rw [List.getElem_cons_succ, show n + (k + 1) + 1 = n + 1 + k + 1 by omega]
      exact ih hws (Nat.lt_of_succ_lt_succ hk)

theorem allBracket_rom : allBracket (cosSinApprox 0) rom = true := by decide

/-- R95: `T[i] = floor(2^32 × abs(sin(i)))`. -/
theorem romAt_toNat_eq_floor (idx : BitVec 6) : (romAt idx).toNat = ⌊2 ^ 32 * |Real.sin ((idx.toNat + 1 : ℕ) : ℝ)|⌋₊ := by
  have hidx : idx.toNat < 64 := idx.isLt
  have hbr := brackets_of_allBracket allBracket_rom (rom_length ▸ hidx)
  rw [Nat.zero_add] at hbr
  exact eq_floor_of_brackets hidx hbr

/-- Settles O11: an index has an entry exactly from 1 to 64, and each entry brackets the fixed-point sine tightly enough to be the floor
of the real one. -/
theorem tromFollowsTheSine : Obligations.TromFollowsTheSine := by
  refine ⟨fun s idx => ?_, fun s i hi => ?_, rfl⟩
  · have hentry := trom?_opidx_succ idx
    exact ⟨exec_trom_of_some s hentry, hentry, romAt_toNat_eq_floor idx⟩
  · have hnone := trom?_eq_none hi
    exact ⟨hnone, exec_trom_of_none s hnone⟩

/-! ### The whole-table checks -/

theorem rom_nodup : rom.Nodup := by decide

/-- 95 section 3.4: every entry lies between T[22] and T[11]. -/
theorem romAt_bounds : ∀ i : BitVec 6, (romAt 21).toNat ≤ (romAt i).toNat ∧ (romAt i).toNat ≤ (romAt 10).toNat := by decide

/-- Settles O12: the contents are fixed, so each check of the table is computed. -/
theorem constantRom : Obligations.ConstantRom := by
  have hsum : (rom.map BitVec.toNat).sum % 2 ^ 32 = 0x27F3A0BC := by decide
  have hxor : rom.foldl (· ^^^ ·) 0 = 0x10E6CC5A := by decide
  exact ⟨hsum, hxor, rom_nodup, rom_length, rfl, rfl, romAt_bounds⟩

end Sys2Proof.Machine
end

section
/-! SUPPORT. The statements of 43_compression_engine.md: every step keeps the run on the track of the block chain (O49), the form of
the operations (O13), their inverse (O19) and their shifting-register form (O20), and the sequencer's other rows INIT (O25), LOAD
(O26), SAVE (O29) and FEED (O30). -/

namespace Sys2Proof.Machine

/-! ### Every step keeps the track of the block chain -/

section
variable {s t u : State}

/-- In IDLE, DONE and ERR no run is on its way. -/
theorem onTrack_of_not_busy (h : busy s.phase = false) : OnTrack s := by
  intro m _
  cases hp : s.phase with
  | load | save | step | feed | fmt => rw [hp] at h; cases h
  | idle | done | err => trivial

/-- The track is about neither the host's moves nor the value returned. -/
theorem OnTrack.setHost (h : OnTrack s) (l : List HostMove) : OnTrack (s.setHost l) := h

theorem OnTrack.setOut (h : OnTrack s) (v : Value) : OnTrack (s.setOut v) := h

theorem OnTrack.of_fetch {c : Code} (h : OnTrack s) (hf : fetch s = some (c, u)) : OnTrack u := by
  obtain ⟨l, rfl⟩ := fetch_eq_setHost hf
  exact h.setHost l

/-- R204: an accepted START is at block 0 with IV, the chain's first value. -/
theorem acceptStart_onTrack (s : State) : OnTrack s.acceptStart :=
  (onTrack_load rfl).mpr fun _ _ => rfl

theorem execStart_onTrack (h : execStart s = .next t) : OnTrack t := by
  obtain ⟨-, ⟨-, rfl⟩ | ⟨-, rfl⟩⟩ := execStart_next_cases h
  · exact acceptStart_onTrack s
  · exact onTrack_of_not_busy rfl

/-- Every instruction but INIT, which as a row of its own (log 11) would change the accumulators in the middle of a run. A host write
of the message or of its length has a next state only where no run is on its way. -/
theorem exec_onTrack {i : Instr} (hi : i ≠ .init) (hs : Inv s) (ho : OnTrack s) (h : exec i s = .next t) : OnTrack t := by
  cases Kind.of i with
  | returns hr =>
    obtain ⟨v, rfl⟩ := exec_returnsOnly_next hr h
    exact ho.setOut v
  | operation idx =>
    rw [exec_decodeOpidx] at h
    obtain ⟨-, hidx, -⟩ := runOperation_next h
    obtain rfl : s.opidx = idx := hidx
    exact runOperation_onTrack ho h
  | reset =>
    obtain rfl := next_inj h
    exact onTrack_of_not_busy rfl
  | start => exact execStart_onTrack h
  | wrLen v =>
    obtain ⟨hb, rfl⟩ := execWrLen_next h
    exact onTrack_of_not_busy hb
  | wrMsg p b =>
    obtain ⟨hb, -, rfl⟩ := execWrMsg_next h
    exact onTrack_of_not_busy hb
  | init => exact absurd rfl hi
  | load => exact execLoad_onTrack ho h
  | save => exact execSave_onTrack ho h
  | feed =>
    obtain ⟨hp, -⟩ := execFeed_next_cases h
    exact execFeed_onTrack ho (hs.blkInRange (congrArg busy hp)) h
  | fmt =>
    obtain ⟨-, rfl⟩ := execFmt_next_iff.mp h
    exact onTrack_of_not_busy rfl

end

/-- Settles O49: whichever agent's move a step runs, and when it waits, the run stays on the track. -/
theorem onTrackKeptByStep : Obligations.OnTrackKeptByStep := by
  intro s t hs ho h
  obtain ⟨-, rfl⟩ | ⟨c, u, i, hf, hd, hx⟩ | ⟨c, u, hf, -, rfl⟩ | ⟨c, u, hf, -, rfl⟩ := step_cases h
  · exact ho.setHost _
  · have hi : i ≠ .init := by
      rintro rfl
      exact decode_fetch_ne_init hf hd
    exact exec_onTrack hi (hs.of_fetch hf) (ho.of_fetch hf) hx
  · exact ho.of_fetch hf
  · exact (ho.of_fetch hf).setOut _

/-! ### The form of the operations -/

/-- R195: the sequencer after an operation, as one update of the state. -/
theorem State.afterOperation_eq (s : State) :
    s.afterOperation =
      { s with
        phase := if s.opidx.toNat < 63 then .step else .feed
        opidx := if s.opidx.toNat < 63 then s.opidx + 1 else s.opidx } := by
  unfold State.afterOperation
  split <;> rfl

/-- Settles O13: the operation an opidx selects is the generic one with the descriptor assembled from it. -/
theorem everyOperationHasTheForm : Obligations.EveryOperationHasTheForm := by
  rintro idx st hp rfl
  rw [exec_decodeOpidx, runOperation_pos hp rfl, State.afterOperation_eq]
  rfl

/-! ### The inverse of an operation -/

/-- Rotating right moves the bit at position i + n, counted round, to position i. -/
theorem rotateRight_getLsbD (v : Word) {n i : Nat} (h : n < 32) (hi : i < 32) :
    (v.rotateRight n).getLsbD i = v.getLsbD ((i + n) % 32) := by
  rw [BitVec.getLsbD_rotateRight, Nat.mod_eq_of_lt h]
  by_cases hc : i < 32 - n
  · have hpos : (i + n) % 32 = n + i := by omega
    simp [hc, hpos]
  · have hpos : (i + n) % 32 = i - (32 - n) := by omega
    simp [hc, hi, hpos]

theorem rotateRight_rotl32 (v : Word) {n : Nat} (h : n < 32) : (rotl32 v n).rotateRight n = v := by
  apply BitVec.eq_of_getLsbD_eq
  intro i hi
  rw [rotateRight_getLsbD _ h hi, rotl32_getLsbD v h hi]

theorem rotl32_rotateRight (v : Word) {n : Nat} (h : n < 32) : rotl32 (v.rotateRight n) n = v := by
  apply BitVec.eq_of_getLsbD_eq
  intro i hi
  obtain ⟨j, hj, rfl⟩ : ∃ j < 32, i = (j + n) % 32 := ⟨(i + 32 - n) % 32, by omega, by omega⟩
  rw [rotl32_getLsbD _ h hj, rotateRight_getLsbD v h hj]

/-- R104: what an operation puts into its destination. -/
theorem operate_get_dst (d : Descr) (x : Vector Word 16) (q : Quad) :
    (operate d x q).get d.dst =
      q.get (d.dst + 1) +
        rotl32 (q.get d.dst + applyFn d.fn (q.get (d.dst + 1)) (q.get (d.dst + 2)) (q.get (d.dst + 3)) + x[d.k] + romAt d.opidx) d.s :=
  Quad.get_set_same _ _ _

/-- R11, R104: an operation keeps the other accumulators. -/
theorem operate_get_other (d : Descr) (x : Vector Word 16) (q : Quad) {n : Fin 4} (h : n ≠ d.dst) :
    (operate d x q).get n = q.get n :=
  Quad.get_set_other _ _ h

/-- Settles O19: rotating back undoes the rotation and subtracting undoes the additions, and what is subtracted does not depend on the
accumulator written. -/
theorem operationIsInvertible : Obligations.OperationIsInvertible := by
  intro idx x q d
  have hs : d.s < 32 := (sOf_bounds _ _).2
  refine ⟨?_, fun w => ?_⟩
  · have hrom : romAt d.opidx = romAt idx := rfl
    rw [operate_get_dst, add_sub_cancel_left, rotateRight_rotl32 _ hs, hrom]
    ring
  · obtain ⟨hb, hc, hd⟩ := roles_distinct d.dst
    refine ⟨(w - q.get (d.dst + 1)).rotateRight d.s - applyFn d.fn (q.get (d.dst + 1)) (q.get (d.dst + 2)) (q.get (d.dst + 3)) -
      x[d.k] - romAt d.opidx, ?_⟩
    rw [operate_get_dst, Quad.get_set_same, Quad.get_set_other _ _ hb, Quad.get_set_other _ _ hc, Quad.get_set_other _ _ hd,
      add_assoc, add_assoc, sub_sub, sub_sub, sub_add_cancel, rotl32_rotateRight _ hs, add_sub_cancel]

/-! ### The shifting-register form -/

/-- R104, R109: the registers by their roles a, b, c, d in an operation that writes register n. -/
def Quad.roles (q : Quad) (n : Fin 4) : Quad :=
  ⟨q.get n, q.get (n + 1), q.get (n + 2), q.get (n + 3)⟩

theorem Quad.roles_zero (q : Quad) : q.roles 0 = q := rfl

theorem roles_cycle : ∀ n : Fin 4, n + 3 + 1 = n ∧ n + 3 + 2 = n + 1 ∧ n + 3 + 3 = n + 2 := by decide

/-- R109: one operation in the shifting form is the operation on the named registers, the roles then one register further down. -/
theorem shiftOperate_roles (d : Descr) (x : Vector Word 16) (q : Quad) :
    shiftOperate d x (q.roles d.dst) = (operate d x q).roles (d.dst + 3) := by
  obtain ⟨hb, hc, hd⟩ := roles_distinct d.dst
  obtain ⟨h1, h2, h3⟩ := roles_cycle d.dst
  rw [Quad.roles, Quad.roles, h1, h2, h3, operate_get_dst, operate_get_other d x q hb, operate_get_other d x q hc, operate_get_other d x q hd]
  rfl

/-- R106: each operation writes the register one down from the one before it, and D after A. -/
theorem dstOf_succ (n : Nat) : dstOf (n + 1) = dstOf n + 3 := by
  apply Fin.ext
  simp only [dstOf, Fin.ofNat, Fin.val_add]
  omega

/-- R66: the destination depends on the op modulo 4 only, also where the 6-bit opidx has wrapped. -/
theorem descrOf_dst (n : Nat) : (descrOf (BitVec.ofNat 6 n)).dst = dstOf n := by
  simp [descrOf, positionOf, dstOf]

/-- R109: after any number of operations the shifting form holds the named registers by their roles in the next one. -/
theorem shiftOpsUpTo_eq_roles (x : Vector Word 16) (q : Quad) (n : Nat) : shiftOpsUpTo x q n = (opsUpTo x q n).roles (dstOf n) := by
  induction n with
  | zero => rfl
  | succ n ih => rw [shiftOpsUpTo, opsUpTo, ih, dstOf_succ, ← descrOf_dst, shiftOperate_roles]

/-- Settles O20: after every fourth operation the next one writes A, so that the roles are the names. -/
theorem shiftingRegisterForm : Obligations.ShiftingRegisterForm := by
  intro x q n _
  have hdst : dstOf (4 * n) = 0 := by simp [dstOf]
  rw [shiftOpsUpTo_eq_roles, hdst, Quad.roles_zero]

/-! ### The sequencer's other rows -/

/-- R84, R235: every address below 64N has a byte, if it is no message byte that nothing has written. -/
theorem pbByte_isSome {mem : Memory} {l p : Nat} (hp : p < 64 * blocks l) (hm : p < l → (Memory.read mem p).isSome = true) :
    (pbByte mem l p).isSome = true := by
  rw [pbByte, if_pos hp]
  split
  · exact hm ‹_›
  · split
    · rfl
    · split <;> rfl

theorem pbWord_isSome {mem : Memory} {l p : Nat} (h : ∀ j < 4, (pbByte mem l (p + j)).isSome = true) :
    ∃ w, pbWord mem l p = some w := by
  obtain ⟨b0, h0⟩ := Option.isSome_iff_exists.mp (h 0 (by decide))
  obtain ⟨b1, h1⟩ := Option.isSome_iff_exists.mp (h 1 (by decide))
  obtain ⟨b2, h2⟩ := Option.isSome_iff_exists.mp (h 2 (by decide))
  obtain ⟨b3, h3⟩ := Option.isSome_iff_exists.mp (h 3 (by decide))
  rw [Nat.add_zero] at h0
  exact ⟨le32 b0 b1 b2 b3, by rw [pbWord, h0, h1, h2, h3]⟩

/-- R102, R235: a block of the buffer whose message bytes are all written can be decoded. -/
theorem blockWords_exists {mem : Memory} {l n : Nat} (hn : n < blocks l)
    (hm : ∀ p, 64 * n ≤ p → p < 64 * n + 64 → p < l → (Memory.read mem p).isSome = true) :
    ∃ x, blockWords mem l n = some x := by
  have hword : ∀ k : Fin 16, ∃ w, pbWord mem l (64 * n + 4 * k.val) = some w := fun k => by
    have hk := k.isLt
    exact pbWord_isSome fun j hj => pbByte_isSome (by omega) (hm _ (by omega) (by omega))
  choose w hw using hword
  exact ⟨Vector.ofFn w, allSome_eq_some.mpr fun k => by simp [hw k]⟩

/-- Settles O26: the block's bytes all have a value, so LOAD decodes it, each word from its four bytes. -/
theorem loadDecodesTheBlock : Obligations.LoadDecodesTheBlock := by
  intro s hp hn hm
  obtain ⟨x, hx⟩ := blockWords_exists hn hm
  refine ⟨x, execLoad_pos hp hn hx, fun k => ?_⟩
  obtain ⟨b0, b1, b2, b3, h0, h1, h2, h3, hw⟩ := pbWord_some (allSome_eq_some.mp hx k)
  exact ⟨b0, b1, b2, b3, h0, h1, h2, h3, hw ▸ le32_toNat_eq b0 b1 b2 b3⟩

/-- Settles O25: INIT writes IV, whose words are these. -/
theorem initLoadsIv : Obligations.InitLoadsIv := fun _ => rfl

/-- Settles O29: SAVE is guarded by its phase alone. -/
theorem saveCopiesTheAccumulators : Obligations.SaveCopiesTheAccumulators :=
  fun _ hp => execSave_next_iff.mpr ⟨hp, rfl⟩

/-- R196: the sequencer after FEED, as one update of the state. -/
theorem State.afterFeed_eq (s : State) :
    s.afterFeed =
      { s with
        blk := if s.blk + 1 < blocks s.len then s.blk + 1 else s.blk
        phase := if s.blk + 1 < blocks s.len then .load else .fmt } := by
  unfold State.afterFeed
  split <;> rfl

/-- Settles O30: FEED is guarded by its phase alone; the example is computed. -/
theorem feedAddsTheSavedCopies : Obligations.FeedAddsTheSavedCopies := by
  refine ⟨fun s hp => ?_, by decide⟩
  exact whenPhase_next_iff.mpr ⟨hp, (State.afterFeed_eq (s.setAcc (s.acc.add s.saved))).symm⟩

end Sys2Proof.Machine
end

section
/-! SUPPORT. The statements of 44_compression_operations.md: the 64 operations as their own rules write them, one statement a round
(O15 to O18). The operands of a rule and its worked example are fixed data and are computed; what the operation does to every
state is the form of R104, already proved for every opidx (O13). -/

namespace Sys2Proof.Claims

open Sys2Proof.Machine

/-- R65, R66, R95: the operands a rule writes out are those the opidx of its code assembles, its constant the ROM's. -/
abbrev OpRow.OperandsAssembled (r : OpRow) : Prop :=
  encode r.instr = .sequencer .step r.opidx ∧ descrOf r.opidx = ⟨r.opidx, r.fn, r.k, r.s, r.dst⟩ ∧ romAt r.opidx = r.t

/-- R110: the worked example of a rule: the function's value, the four-term sum, the rotated sum, the new value. -/
abbrev OpRow.ExampleComputes (r : OpRow) : Prop :=
  applyFn r.fn (r.before.get (r.dst + 1)) (r.before.get (r.dst + 2)) (r.before.get (r.dst + 3)) = r.fval ∧
  r.before.get r.dst + r.fval + r.xk + r.t = r.sum ∧
  rotl32 r.sum r.s = r.rot ∧
  r.before.get (r.dst + 1) + r.rot = r.new

/-- R195: the sequencer's advance by the number of the operation and by whether it is the last one. -/
theorem advance_eq_of_last (i : BitVec 6) :
    (if i.toNat < 63 then Phase.step else .feed) = (if i = 63 then .feed else .step) ∧
    (if i.toNat < 63 then i + 1 else i) = if i = 63 then 63 else i + 1 := by
  by_cases h : i = 63
  · subst h; decide
  · have hlt : i.toNat < 63 := by bv_omega
    simp only [if_pos hlt, if_neg h, and_self]

/-- R104: a rule's formula is the form of every operation at the operands the rule writes out. -/
theorem OpRow.holds_of_operandsAssembled {r : OpRow} (ho : r.OperandsAssembled) (hx : r.ExampleComputes) : r.Holds := by
  obtain ⟨henc, hd, ht⟩ := ho
  refine ⟨henc, fun st hp hi => ?_, hx⟩
  have hform := everyOperationHasTheForm r.opidx st hp hi
  obtain ⟨hphase, hopidx⟩ := advance_eq_of_last r.opidx
  simpa only [← eq_decodeOpidx_of_encode henc, hd, ht, hphase, hopidx] using hform

/-- A round's rows hold once their fixed data are checked row by row. -/
theorem rows_hold {rows : List OpRow} (ho : ∀ r ∈ rows, r.OperandsAssembled) (hx : ∀ r ∈ rows, r.ExampleComputes) :
    ∀ r ∈ rows, r.Holds :=
  fun r hr => OpRow.holds_of_operandsAssembled (ho r hr) (hx r hr)

/-- Settles O15: the rows of R111 to R126 are computed, the rest is the form of every operation. -/
theorem roundOneOperations : Obligations.RoundOneOperations := rows_hold (by decide) (by decide)

/-- Settles O16: the rows of R127 to R142 are computed, the rest is the form of every operation. -/
theorem roundTwoOperations : Obligations.RoundTwoOperations := rows_hold (by decide) (by decide)

/-- Settles O17: the rows of R143 to R158 are computed, the rest is the form of every operation. -/
theorem roundThreeOperations : Obligations.RoundThreeOperations := rows_hold (by decide) (by decide)

/-- Settles O18: the rows of R159 to R174 are computed, OP64 among them; the rest is the form of every operation. -/
theorem roundFourOperations : Obligations.RoundFourOperations := rows_hold (by decide) (by decide)

end Sys2Proof.Claims
end

section
/-! SUPPORT. The statements of 45_digest_formatter.md: the bytes of DIGEST and the characters of HEX cell by cell (O31), how the two
outputs determine each other (O32), and which characters occur (O33). -/

namespace Sys2Proof.Machine

/-! ### Bytes and digits -/

/-- R10: reversing the bytes of a word puts byte j at place 3 - j. -/
theorem byteOf_bswap32 (w : Word) {j : Nat} (h : j < 4) : byteOf (bswap32 w) (3 - j) = byteOf w j := by
  obtain ⟨h0, h1, h2, h3⟩ := byteOf_le32 (byteOf w 3) (byteOf w 2) (byteOf w 1) (byteOf w 0)
  interval_cases j
  · exact h3
  · exact h2
  · exact h1
  · exact h0

/-- R10: a field inside byte j of a value is a field of the value, 8j bits further up. -/
theorem extractLsb'_byteOf {n : Nat} (w : BitVec n) (j : Nat) {start len : Nat} (h : start + len ≤ 8) :
    (byteOf w j).extractLsb' start len = w.extractLsb' (8 * j + start) len := by
  ext i hi
  have hbit : start + i < 8 := by omega
  simp [byteOf, hbit, Nat.add_assoc]

/-- R182: the digit of index 2j of a word is the high half of its byte 3 - j. -/
theorem nibble_even (w : Word) {j : Nat} (h : j < 4) : nibble w (2 * j) = (byteOf w (3 - j)).extractLsb' 4 4 := by
  have hstart : 28 - 4 * (2 * j) = 8 * (3 - j) + 4 := by omega
  rw [nibble, extractLsb'_byteOf w _ (by decide), hstart]

/-- R182: the digit of index 2j + 1 of a word is the low half of its byte 3 - j. -/
theorem nibble_odd (w : Word) {j : Nat} (h : j < 4) : nibble w (2 * j + 1) = (byteOf w (3 - j)).extractLsb' 0 4 := by
  have hstart : 28 - 4 * (2 * j + 1) = 8 * (3 - j) + 0 := by omega
  rw [nibble, extractLsb'_byteOf w _ (by decide), hstart]

/-- R182: a digit of a word, written as the number (w >> (28 - 4q)) mod 16. -/
theorem nibble_eq_ofNat (w : Word) (q : Nat) : nibble w q = BitVec.ofNat 4 ((w.toNat >>> (28 - 4 * q)) % 16) := by
  apply BitVec.eq_of_toNat_eq
  simp [nibble, BitVec.extractLsb'_toNat]

/-- R183, R184: a digit's character is one of 0 to 9 or one of a to f. -/
theorem hexDigit_range (n : BitVec 4) :
    (0x30 ≤ (hexDigit n).toNat ∧ (hexDigit n).toNat ≤ 0x39) ∨ (0x61 ≤ (hexDigit n).toNat ∧ (hexDigit n).toNat ≤ 0x66) := by
  have := n.isLt
  rw [hexDigit_toNat]
  split <;> omega

/-- R184: different digits have different characters, since the codes of 0 to 9 lie below those of a to f. -/
theorem hexDigit_injective : Function.Injective hexDigit := by
  intro a b h
  have hcode : (hexDigit a).toNat = (hexDigit b).toNat := congrArg BitVec.toNat h
  rw [hexDigit_toNat, hexDigit_toNat] at hcode
  apply BitVec.eq_of_toNat_eq
  split at hcode <;> split at hcode <;> omega

/-- A byte is determined by its two digits. -/
theorem byte_eq_of_digits {b c : Byte} (hhigh : b.extractLsb' 4 4 = c.extractLsb' 4 4)
    (hlow : b.extractLsb' 0 4 = c.extractLsb' 0 4) : b = c := by
  rw [← BitVec.extractLsb'_append_extractLsb' (w := 4) (len := 4) (x := b), hhigh, hlow,
    BitVec.extractLsb'_append_extractLsb']

/-- R10: a word is determined by its four bytes. -/
theorem word_eq_of_bytes {v w : Word} (h : ∀ j < 4, byteOf v j = byteOf w j) : v = w := by
  calc v = le32 (byteOf v 0) (byteOf v 1) (byteOf v 2) (byteOf v 3) := by rw [le32_byteOf v 0, BitVec.extractLsb'_eq_self]
    _ = le32 (byteOf w 0) (byteOf w 1) (byteOf w 2) (byteOf w 3) := by
      rw [h 0 (by decide), h 1 (by decide), h 2 (by decide), h 3 (by decide)]
    _ = w := by rw [le32_byteOf w 0, BitVec.extractLsb'_eq_self]

/-- Accumulators that agree at every number are the same. -/
theorem Quad.eq_of_get {q r : Quad} (h : ∀ n, q.get n = r.get n) : q = r := by
  cases q
  cases r
  rw [Quad.mk.injEq]
  exact ⟨h 0, h 1, h 2, h 3⟩

/-! ### The cells of the outputs -/

/-- R181: DIGEST[m] is byte m mod 4 of the accumulator of index m / 4. -/
theorem serialize_getElem (q : Quad) {m : Nat} (h : m < 16) :
    (serialize q)[m] = byteOf (q.get (Fin.ofNat 4 (m / 4))) (m % 4) := by
  simp [serialize]

/-- R182: HEX[i] is the character of digit i mod 8 of the byte-swapped accumulator of index i / 8. -/
theorem hexString_getElem (q : Quad) {i : Nat} (h : i < 32) :
    (hexString q)[i] = hexDigit (nibble (bswap32 (q.get (Fin.ofNat 4 (i / 8)))) (i % 8)) := by
  simp [hexString]

/-- R181: DIGEST by the number of the accumulator and the number of the byte in it. -/
theorem serialize_getElem_word (q : Quad) (n : Fin 4) {j : Nat} (h : j < 4) :
    (serialize q)[4 * n.val + j] = byteOf (q.get n) j := by
  have hn : Fin.ofNat 4 ((4 * n.val + j) / 4) = n := Fin.ext (by simp only [Fin.val_ofNat]; omega)
  have hj : (4 * n.val + j) % 4 = j := by omega
  rw [serialize_getElem, hn, hj]

/-- R182: HEX by the number of the accumulator and the number of the digit in it. -/
theorem hexString_getElem_word (q : Quad) (n : Fin 4) {k : Nat} (h : k < 8) :
    (hexString q)[8 * n.val + k] = hexDigit (nibble (bswap32 (q.get n)) k) := by
  have hn : Fin.ofNat 4 ((8 * n.val + k) / 8) = n := Fin.ext (by simp only [Fin.val_ofNat]; omega)
  have hk : (8 * n.val + k) % 8 = k := by omega
  rw [hexString_getElem, hn, hk]

/-- R182: HEX[2m] is the character of the high digit of DIGEST[m]. -/
theorem hexString_getElem_even (q : Quad) {m : Nat} (h : m < 16) :
    (hexString q)[2 * m] = hexDigit ((serialize q)[m].extractLsb' 4 4) := by
  have hj : m % 4 < 4 := Nat.mod_lt _ (by decide)
  have hword : 2 * m / 8 = m / 4 := by omega
  have hdigit : 2 * m % 8 = 2 * (m % 4) := by omega
  rw [hexString_getElem, serialize_getElem, hword, hdigit, nibble_even _ hj, byteOf_bswap32 _ hj]

/-- R182: HEX[2m + 1] is the character of the low digit of DIGEST[m]. -/
theorem hexString_getElem_odd (q : Quad) {m : Nat} (h : m < 16) :
    (hexString q)[2 * m + 1] = hexDigit ((serialize q)[m].extractLsb' 0 4) := by
  have hj : m % 4 < 4 := Nat.mod_lt _ (by decide)
  have hword : (2 * m + 1) / 8 = m / 4 := by omega
  have hdigit : (2 * m + 1) % 8 = 2 * (m % 4) + 1 := by omega
  rw [hexString_getElem, serialize_getElem, hword, hdigit, nibble_odd _ hj, byteOf_bswap32 _ hj]

/-! ### What the outputs determine -/

/-- R186: DIGEST determines the accumulators, byte by byte. -/
theorem serialize_injective : Function.Injective serialize := by
  intro q r h
  refine Quad.eq_of_get fun n => word_eq_of_bytes fun j hj => ?_
  rw [← serialize_getElem_word q n hj, ← serialize_getElem_word r n hj]
  simp only [h]

/-- R186: HEX determines DIGEST, since the characters 2m and 2m + 1 give the two digits of byte m. -/
theorem serialize_eq_of_hexString_eq {q r : Quad} (h : hexString q = hexString r) : serialize q = serialize r := by
  apply Vector.ext
  intro m hm
  apply byte_eq_of_digits
  · apply hexDigit_injective
    rw [← hexString_getElem_even q hm, ← hexString_getElem_even r hm]
    simp only [h]
  · apply hexDigit_injective
    rw [← hexString_getElem_odd q hm, ← hexString_getElem_odd r hm]
    simp only [h]

/-- Settles O32: HEX determines DIGEST by its digits, DIGEST the accumulators by its bytes, and those both outputs. -/
theorem hexAgreesWithDigest : Obligations.HexAgreesWithDigest := by
  refine ⟨fun q m hm => ⟨hexString_getElem_even q hm, hexString_getElem_odd q hm⟩, fun q r => ?_,
    fun _ _ => serialize_injective.eq_iff⟩
  exact ⟨serialize_eq_of_hexString_eq, fun h => congrArg hexString (serialize_injective h)⟩

/-- Settles O33: every cell of HEX is the character of a digit. -/
theorem hexIsLowercase : Obligations.HexIsLowercase := by
  intro q i hi
  simp only [hexString_getElem q hi]
  exact hexDigit_range _

/-- Settles O31: FMT is guarded by its phase alone, and the outputs it writes are these cells. -/
theorem fmtWritesTheOutputs : Obligations.FmtWritesTheOutputs := by
  intro s hp
  refine ⟨serialize s.acc, hexString s.acc, execFmt_next_iff.mpr ⟨hp, rfl⟩, fun n j hn hj => ?_, fun n q hn hq => ?_⟩
  · rw [serialize_getElem_word s.acc ⟨n, hn⟩ hj, byteOf_toNat_shiftRight]
  · rw [hexString_getElem_word s.acc ⟨n, hn⟩ hq, nibble_eq_ofNat]

end Sys2Proof.Machine
end

section
/-! SUPPORT. The statements of 46_host_interface.md: the host commands START (O35, O37), the register reads (O40), the writes (O41) and
the reads of the outputs (O42, O43); what a step runs (O44, O45) and when it waits (O46); and that every step of an undisturbed busy
core completes and is one nearer DONE (O51). -/

namespace Sys2Proof.Machine

/-! ### Commands that are refused while BUSY -/

/-- R28: the phases in which the core is not BUSY. -/
theorem busy_eq_false_iff {p : Phase} : busy p = false ↔ p = .idle ∨ p = .done ∨ p = .err := by
  cases p with
  | load | save | step | feed | fmt | idle | done | err => decide

theorem whenNotBusy_neg {r : Refusal} {s : State} (k : Host.Outcome State Fault Refusal) (h : busy s.phase = true) :
    whenNotBusy r s k = .refused r :=
  if_pos h

/-- R192: START where the core is not BUSY and LEN fits. -/
theorem execStart_accepted {s : State} (hb : busy s.phase = false) (hf : fits s.cfg s.len = true) :
    execStart s = .next s.acceptStart :=
  (whenNotBusy_pos _ hb).trans (if_pos hf)

/-- Settles O35: START is accepted, and `acceptStart` is this update of the state. -/
theorem startAccepted : Obligations.StartAccepted :=
  fun _ hp hf => execStart_accepted (busy_eq_false_iff.mpr hp) hf

/-- Settles O37: START is guarded by BUSY before LEN is looked at. -/
theorem startWhileBusyRefused : Obligations.StartWhileBusyRefused :=
  fun _ hb => whenNotBusy_neg _ hb

section
variable {s : State} {p : Nat}

theorem execWrMsg_pos (b : Byte) (hb : busy s.phase = false) (ha : hasAddress s.cfg p = true) :
    execWrMsg p b s = .next (s.setMsg (s.msg.write p b)) :=
  (whenNotBusy_pos _ hb).trans (if_pos ha)

theorem execWrMsg_beyondCapacity (b : Byte) (hb : busy s.phase = false) (ha : hasAddress s.cfg p = false) :
    execWrMsg p b s = .refused .beyondCapacity :=
  (whenNotBusy_pos _ hb).trans (if_neg (Bool.eq_false_iff.mp ha))

/-- R30: MSG has no address at or above a capacity that is a number. -/
theorem hasAddress_eq_false {c : Config} {cap : Nat} (hc : c.msgCap = some cap) (h : cap ≤ p) : hasAddress c p = false := by
  simp [hasAddress, hc, h]

end

/-- Settles O41: both writes are guarded by BUSY, WR_MSG then by the capacity; what MSG reads as afterwards is the law of a memory
write. -/
theorem hostWrites : Obligations.HostWrites := by
  intro s
  refine ⟨fun v hp => ?_, fun p b hp ha => ?_, fun hb => ?_, fun p cap b hb hc hle => ?_⟩
  · exact whenNotBusy_pos _ (busy_eq_false_iff.mpr hp)
  · exact ⟨s.msg.write p b, execWrMsg_pos b (busy_eq_false_iff.mpr hp) ha, Memory.read_write_same _ _ _,
      fun a hne => Memory.read_write_other _ _ hne⟩
  · exact ⟨fun v => whenNotBusy_neg _ hb, fun p b => whenNotBusy_neg _ hb⟩
  · exact execWrMsg_beyondCapacity b hb (hasAddress_eq_false hc hle)

/-! ### Reads -/

section
variable {s : State}

theorem execRdStatus_eq {v : BitVec 3} (h : status s.phase = v) : execRdStatus s = .next (s.setOut (.status v)) := by
  rw [execRdStatus, h]

theorem execRdErrcode_eq {v : BitVec 2} (h : errBits s.errcode = v) : execRdErrcode s = .next (s.setOut (.errcode v)) := by
  rw [execRdErrcode, h]

end

/-- Settles O40: the reads have no guard; STATUS is computed phase by phase and ERRCODE's code by its two values. -/
theorem registerReads : Obligations.RegisterReads := by
  intro s
  refine ⟨execRdStatus_eq ?_, execRdErrcode_eq ?_, rfl⟩
  · cases s.phase with
    | idle | load | save | step | feed | fmt | done | err => rfl
  · cases s.errcode with
    | none | capacity => rfl

section
variable {n : Nat} {o : Option (Vector Byte n)} {v : Vector Byte n} {i : Nat} {wrap : Byte → Value} {s : State}

theorem readOutput_pos (hp : s.phase = .done) (ho : o = some v) (hi : i < n) :
    readOutput o i wrap s = .next (s.setOut (wrap v[i])) := by
  subst ho
  exact (if_pos hp).trans (dif_pos hi)

theorem readOutput_noSuchCell (hp : s.phase = .done) (ho : o = some v) (hi : n ≤ i) :
    readOutput o i wrap s = .refused .noSuchCell := by
  subst ho
  exact (if_pos hp).trans (dif_neg hi.not_gt)

theorem readOutput_outputNotValid (hp : s.phase ≠ .done) : readOutput o i wrap s = .refused .outputNotValid :=
  if_neg hp

end

/-- Settles O42: both reads are `readOutput` at their output, which answers exactly the cells that exist. -/
theorem outputReads : Obligations.OutputReads :=
  fun _ _ _ hp hd hh => ⟨fun _ hm => readOutput_pos hp hd hm, fun _ hq => readOutput_pos hp hh hq,
    fun _ hm => readOutput_noSuchCell hp hd hm, fun _ hq => readOutput_noSuchCell hp hh hq⟩

/-- Settles O43: `readOutput` tests DONE first. -/
theorem outputReadsRefusedOutsideDone : Obligations.OutputReadsRefusedOutsideDone :=
  fun _ _ hp => ⟨readOutput_outputNotValid hp, readOutput_outputNotValid hp⟩

/-! ### What a step runs -/

section
variable {s : State} {rest : List HostMove}

theorem coreFetch_of_busy (h : busy s.phase = true) : coreFetch s = some (.sequencer s.phase s.opidx, s) :=
  if_pos h

theorem coreFetch_of_not_busy (h : busy s.phase = false) : coreFetch s = none :=
  if_neg (Bool.eq_false_iff.mp h)

theorem fetch_of_nil (hh : s.host = []) : fetch s = coreFetch s := by
  rw [fetch, hh]

/-- R208: a wait leaves the step to the core. -/
theorem fetch_of_wait (hh : s.host = .wait :: rest) : fetch s = coreFetch (s.setHost rest) := by
  rw [fetch, hh]

theorem fetch_of_resetInput (hh : s.host = .resetInput :: rest) : fetch s = some (.resetInput, s.setHost rest) := by
  rw [fetch, hh]

theorem step_of_fetch_none (h : fetch s = none) : step s = .next s.waiting := by
  rw [step, h]

theorem waiting_of_nil (hh : s.host = []) : s.waiting = s := by
  calc s.setHost s.host.tail
    _ = s.setHost s.host := by rw [hh, List.tail_nil]
    _ = s := rfl

theorem waiting_of_wait (hh : s.host = .wait :: rest) : s.waiting = s.setHost rest := by
  rw [State.waiting, hh, List.tail_cons]

end

/-- Settles O44: each kind of pending move by what it fetches. -/
theorem stepRunsTheDecodedInstruction : Obligations.StepRunsTheDecodedInstruction := by
  intro s i rest
  refine ⟨fun a ha hd => ?_, fun hh => ?_, fun hh hb hd => ?_, fun hh hb hd => ?_⟩
  · exact step_of_fetch_op (fetch_issues ha) hd
  · exact step_of_fetch_op (fetch_of_resetInput hh) rfl
  · exact step_core hh hb hd
  · have hf : fetch s = some (.sequencer s.phase s.opidx, s.setHost rest) :=
      (fetch_of_wait hh).trans (coreFetch_of_busy hb)
    exact step_of_fetch_op hf hd

/-- Settles O45: the core's step, phase by phase. -/
theorem sequencerSelectsByPhase : Obligations.SequencerSelectsByPhase := by
  intro s hh
  refine ⟨step_load hh, step_save hh, fun hp => ?_, step_feed hh, step_fmt hh⟩
  rw [exec_decodeOpidx]
  exact step_operation hh hp

/-- Settles O46: where the core has no step of its own and the host no access, nothing is fetched. -/
theorem waitingChangesNothing : Obligations.WaitingChangesNothing := by
  intro s hb
  refine ⟨fun hh => ?_, fun rest hh => ?_⟩
  · have hf : fetch s = none := (fetch_of_nil hh).trans (coreFetch_of_not_busy hb)
    rw [step_of_fetch_none hf, waiting_of_nil hh]
  · have hf : fetch s = none := (fetch_of_wait hh).trans (coreFetch_of_not_busy hb)
    rw [step_of_fetch_none hf, waiting_of_wait hh]
    rfl

/-! ### Every step of an undisturbed busy core (R203) -/

/-- What a step of the busy core does whatever the registers hold: it leaves the message, is one step nearer DONE, and goes on or is
in DONE. -/
structure CoreStep (s t : State) : Prop where
  same : SameMessage s t
  nearer : stepsLeft s = stepsLeft t + 1
  goesOn : busy t.phase = true ∨ t.phase = .done

section
variable {s t : State}

theorem execLoad_coreStep (h : execLoad s = .next t) : CoreStep s t := by
  have hs := execLoad_stepsLeft h
  obtain ⟨-, -, x, -, rfl⟩ := execLoad_next h
  exact ⟨⟨rfl, rfl, rfl, rfl⟩, hs, .inl rfl⟩

theorem execSave_coreStep (h : execSave s = .next t) : CoreStep s t := by
  have hs := execSave_stepsLeft h
  obtain ⟨-, rfl⟩ := execSave_next_iff.mp h
  exact ⟨⟨rfl, rfl, rfl, rfl⟩, hs, .inl rfl⟩

theorem runOperation_coreStep {d : Descr} (h : runOperation d s = .next t) : CoreStep s t := by
  have hs := runOperation_stepsLeft h
  obtain ⟨-, ⟨-, rfl⟩ | ⟨-, rfl⟩⟩ := runOperation_next_cases h
  · exact ⟨⟨rfl, rfl, rfl, rfl⟩, hs, .inl rfl⟩
  · exact ⟨⟨rfl, rfl, rfl, rfl⟩, hs, .inl rfl⟩

theorem execFeed_coreStep (h : execFeed s = .next t) : CoreStep s t := by
  have hs := execFeed_stepsLeft h
  obtain ⟨-, ⟨-, rfl⟩ | ⟨-, rfl⟩⟩ := execFeed_next_cases h
  · exact ⟨⟨rfl, rfl, rfl, rfl⟩, hs, .inl rfl⟩
  · exact ⟨⟨rfl, rfl, rfl, rfl⟩, hs, .inl rfl⟩

theorem execFmt_coreStep (h : execFmt s = .next t) : CoreStep s t := by
  have hs := execFmt_stepsLeft h
  obtain ⟨-, rfl⟩ := execFmt_next_iff.mp h
  exact ⟨⟨rfl, rfl, rfl, rfl⟩, hs, .inr rfl⟩

theorem step_coreStep (hh : s.host = []) (hb : busy s.phase = true) (h : step s = .next t) : CoreStep s t := by
  cases hp : s.phase with
  | load => exact execLoad_coreStep (step_load hh hp ▸ h)
  | save => exact execSave_coreStep (step_save hh hp ▸ h)
  | step => exact runOperation_coreStep (step_operation hh hp ▸ h)
  | feed => exact execFeed_coreStep (step_feed hh hp ▸ h)
  | fmt => exact execFmt_coreStep (step_fmt hh hp ▸ h)
  | idle | done | err => rw [hp] at hb; cases hb

/-- R102, R235: LOAD of a block in range completes where the message is written. -/
theorem execLoad_completes (hp : s.phase = .load) (hn : s.blk < blocks s.len) (hm : MessageWritten s) :
    ∃ t, execLoad s = .next t := by
  obtain ⟨x, hx⟩ := blockWords_exists hn fun p _ _ hlt => hm p hlt
  exact ⟨_, execLoad_pos hp hn hx⟩

/-- R203: in its phase every operation but LOAD completes whatever the state. -/
theorem step_completes (hi : Inv s) (hm : MessageWritten s) (hb : busy s.phase = true) (hh : s.host = []) :
    ∃ t, step s = .next t := by
  cases hp : s.phase with
  | load => rw [step_load hh hp]; exact execLoad_completes hp (hi.blkInRange hb) hm
  | save => rw [step_save hh hp]; exact ⟨_, execSave_next_iff.mpr ⟨hp, rfl⟩⟩
  | step => rw [step_operation hh hp]; exact ⟨_, runOperation_pos hp rfl⟩
  | feed => rw [step_feed hh hp]; exact ⟨_, whenPhase_pos _ hp⟩
  | fmt => rw [step_fmt hh hp]; exact ⟨_, execFmt_next_iff.mpr ⟨hp, rfl⟩⟩
  | idle | done | err => rw [hp] at hb; cases hb

theorem SameMessage.messageWritten (h : SameMessage s t) (hm : MessageWritten s) : MessageWritten t := by
  intro p hp
  rw [h.msg]
  exact hm p (h.len ▸ hp)

theorem stepsLeft_of_done (h : s.phase = .done) : stepsLeft s = 0 := by
  simp only [stepsLeft, h]

/-- R203: within a run and at its end, DONE is where no step is left. -/
theorem stepsLeft_eq_zero_iff (h : busy s.phase = true ∨ s.phase = .done) : stepsLeft s = 0 ↔ s.phase = .done := by
  obtain hb | hd := h
  · exact iff_of_false (stepsLeft_pos hb).ne' (ne_done_of_busy hb)
  · exact iff_of_true (stepsLeft_of_done hd) hd

end

/-- Settles O51: a next state exists in each busy phase, and each operation's own measure lemma says it is one step nearer. -/
theorem everyBusyStepCompletes : Obligations.EveryBusyStepCompletes := by
  intro s hi hm hb hh
  obtain ⟨t, ht⟩ := step_completes hi hm hb hh
  obtain ⟨hsame, hnear, hon⟩ := step_coreStep hh hb ht
  exact ⟨t, ht, hnear, hsame.messageWritten hm, hsame.host.trans hh, hsame.len, stepsLeft_eq_zero_iff hon⟩

end Sys2Proof.Machine
end

section
/-! SUPPORT. The statements of 60_exceptions.md: no step faults under the invariant, and what a step refuses (O50); the capacity fault
that START takes (O36); and the ways out of ERR (O58). -/

namespace Sys2Proof.Machine

open Sys2Proof.Claims

/-! ### What can fault -/

section
variable {s u : State} {k : Host.Outcome State Fault Refusal}

theorem whenPhase_ne_fault {p : Phase} (hk : ∀ f, k ≠ .fault f) (f : Fault) : whenPhase p s k ≠ .fault f := by
  unfold whenPhase
  split
  · exact hk f
  · nofun

theorem whenNotBusy_ne_fault {r : Refusal} (hk : ∀ f, k ≠ .fault f) (f : Fault) : whenNotBusy r s k ≠ .fault f := by
  unfold whenNotBusy
  split
  · nofun
  · exact hk f

theorem runOperation_ne_fault (d : Descr) (f : Fault) : runOperation d s ≠ .fault f := by
  refine whenPhase_ne_fault (fun f => ?_) f
  split <;> nofun

/-- R212: the one exception is no fault of the model; START answers a next state whether LEN fits or not. -/
theorem execStart_ne_fault (f : Fault) : execStart s ≠ .fault f := by
  refine whenNotBusy_ne_fault (fun f => ?_) f
  split <;> nofun

theorem execWrMsg_ne_fault (p : Nat) (b : Byte) (f : Fault) : execWrMsg p b s ≠ .fault f := by
  refine whenNotBusy_ne_fault (fun f => ?_) f
  split <;> nofun

theorem readOutput_ne_fault {n : Nat} (o : Option (Vector Byte n)) (i : Nat) (wrap : Byte → Value) (f : Fault) :
    readOutput o i wrap s ≠ .fault f := by
  unfold readOutput
  repeat' split
  all_goals nofun

theorem execPad_ne_fault (f : Fault) : execPad s ≠ .fault f := by
  unfold execPad
  split <;> nofun

theorem execTrom_ne_fault (n : Nat) (f : Fault) : execTrom n s ≠ .fault f := by
  unfold execTrom
  split <;> nofun

theorem exec_returnsOnly_ne_fault {i : Instr} (hi : returnsOnly i) (f : Fault) : exec i s ≠ .fault f := by
  obtain rfl | rfl | rfl | ⟨m, rfl⟩ | ⟨q, rfl⟩ | rfl | ⟨x, y, z, rfl⟩ | ⟨x, y, z, rfl⟩ | ⟨x, y, z, rfl⟩ | ⟨x, y, z, rfl⟩ |
    ⟨n, rfl⟩ := hi
  · nofun
  · nofun
  · nofun
  · exact readOutput_ne_fault s.digest m .digest f
  · exact readOutput_ne_fault s.hex q .hex f
  · exact execPad_ne_fault f
  · nofun
  · nofun
  · nofun
  · nofun
  · exact execTrom_ne_fault n f

/-- R102, log 17: LOAD faults at most at a block outside the padded buffer. -/
theorem execLoad_ne_fault (hn : s.phase = .load → s.blk < blocks s.len) (f : Fault) : execLoad s ≠ .fault f := by
  by_cases hp : s.phase = .load
  · rw [execLoad, whenPhase_pos _ hp, if_pos (hn hp)]
    split <;> nofun
  · rw [execLoad, whenPhase_neg _ hp]
    nofun

/-- R210: no instruction but LOAD can fault, and LOAD does not where the block is in range. -/
theorem exec_ne_fault (hs : Inv s) (i : Instr) (f : Fault) : exec i s ≠ .fault f := by
  cases Kind.of i with
  | returns hi => exact exec_returnsOnly_ne_fault hi f
  | operation idx => rw [exec_decodeOpidx]; exact runOperation_ne_fault _ f
  | reset | init => nofun
  | start => exact execStart_ne_fault f
  | wrLen v => exact whenNotBusy_ne_fault (by nofun) f
  | wrMsg p b => exact execWrMsg_ne_fault p b f
  | load => exact execLoad_ne_fault (fun hp => hs.blkInRange (congrArg busy hp)) f
  | save | feed | fmt => exact whenPhase_ne_fault (by nofun) f

theorem step_ne_fault (hs : Inv s) (f : Fault) : step s ≠ .fault f := by
  unfold step
  split
  · nofun
  next c u hf =>
    split
    · exact exec_ne_fault (hs.of_fetch hf) _ f
    all_goals nofun

/-! ### What a step refuses -/

/-- R235: in its phase, at a block in range, LOAD refuses an unwritten message byte and nothing else. -/
theorem execLoad_refused {r : Refusal} (hp : s.phase = .load) (hn : s.blk < blocks s.len) (h : execLoad s = .refused r) :
    r = .unwrittenMsgByte := by
  rw [execLoad, whenPhase_pos _ hp, if_pos hn] at h
  split at h
  · cases h
  · exact (Host.Outcome.refused.inj h).symm

/-- R193 to R197: what a busy core selects is an instruction, and in every phase but LOAD it has a next state. -/
theorem exec_core_completes (hb : busy s.phase = true) (hl : s.phase ≠ .load) :
    ∃ i t, decodeSequencer s.phase s.opidx = .op i ∧ exec i s = .next t := by
  cases hp : s.phase with
  | load => exact absurd hp hl
  | save => exact ⟨.save, _, rfl, whenPhase_pos _ hp⟩
  | step => exact ⟨_, _, rfl, (exec_decodeOpidx _ _).trans (runOperation_pos hp rfl)⟩
  | feed => exact ⟨.feed, _, rfl, whenPhase_pos _ hp⟩
  | fmt => exact ⟨.fmt, _, rfl, whenPhase_pos _ hp⟩
  | idle | done | err => rw [hp] at hb; cases hb

/-- A step that runs the core's own operation, with or without a wait used up, is refused by LOAD only. -/
theorem step_core_refused {r : Refusal} (hu : Inv u) (hb : busy u.phase = true)
    (hf : fetch s = some (.sequencer u.phase u.opidx, u)) (h : step s = .refused r) : r = .unwrittenMsgByte ∧ u.phase = .load := by
  by_cases hl : u.phase = .load
  · have hd : decode (.sequencer u.phase u.opidx) = .op .load := by rw [hl]; rfl
    have hx : execLoad u = .refused r := (step_of_fetch_op hf hd).symm.trans h
    exact ⟨execLoad_refused hl (hu.blkInRange hb) hx, hl⟩
  · obtain ⟨i, t, hd, hx⟩ := exec_core_completes hb hl
    have hnext : step s = .next t := (step_of_fetch_op hf hd).trans hx
    cases hnext.symm.trans h

end

/-- Settles O50: no instruction faults under the invariant, LOAD's block being in range (R102, log 17); a refusal is of the host's
access, or of what the core runs, where LOAD alone can be refused, for an unwritten byte (R235, log 8). -/
theorem noFaultUnderInvariant : Obligations.NoFaultUnderInvariant := by
  refine fun s hs => ⟨step_ne_fault hs, fun r h => ?_⟩
  cases hf : fetch s with
  | none => cases (step_of_fetch_none hf).symm.trans h
  | some cu =>
    obtain ⟨c, u⟩ := cu
    obtain ⟨l, rfl⟩ := fetch_eq_setHost hf
    obtain ⟨rest, -, rfl, -⟩ | ⟨a, rest, ⟨m, hh, ha⟩, -⟩ | ⟨b, rest, hh, -⟩ | ⟨hb, rfl, -⟩ := fetch_cases hf
    · cases (step_of_fetch_op (i := .reset) hf rfl).symm.trans h
    · exact .inl ⟨m, rest, hh, (by rintro rfl; cases ha), (by rintro rfl; cases ha)⟩
    · exact .inl ⟨.bus b, rest, hh, nofun, nofun⟩
    · exact .inr (step_core_refused (u := s.setHost l) (hs.setHost l) hb hf h)

/-! ### The capacity fault -/

section
variable {s : State}

/-- R212: a length above a capacity that is a number does not fit. -/
theorem fits_eq_false {c : Config} {cap l : Nat} (hc : c.msgCap = some cap) (h : cap < l) : fits c l = false := by
  simp [fits, hc, h]

/-- R213: START where the core is not BUSY and LEN does not fit. -/
theorem execStart_capacityFault (hb : busy s.phase = false) (hf : fits s.cfg s.len = false) :
    execStart s = .next s.raiseCapacityFault :=
  (whenNotBusy_pos _ hb).trans (if_neg (Bool.eq_false_iff.mp hf))

/-- R28: STATUS in ERR is the bit ERR alone. -/
theorem status_err : status .err = 0b100 := by decide

theorem raiseCapacityFault_idem (s : State) : s.raiseCapacityFault.raiseCapacityFault = s.raiseCapacityFault := rfl

end

/-- Settles O36: START takes the fault, which writes these fields, keeps LEN and leaves the core not BUSY, so that START takes it
again. -/
theorem startTakesCapacityFault : Obligations.StartTakesCapacityFault := by
  intro s cap hp hc hlt
  have hf : fits s.cfg s.len = false := fits_eq_false hc hlt
  refine ⟨s.raiseCapacityFault, execStart_capacityFault (busy_eq_false_iff.mpr hp) hf, rfl, status_err, ?_⟩
  have hagain : execStart s.raiseCapacityFault = .next s.raiseCapacityFault.raiseCapacityFault :=
    execStart_capacityFault rfl hf
  rwa [raiseCapacityFault_idem] at hagain

/-! ### What an instruction does to the message and to ERR -/

section
variable {i : Instr} {s t u : State}

/-- What an instruction that answers a next state does to the message and the phase: outside a run of the core's own operations the
message, LEN and ERR are touched by the host's commands alone. -/
inductive Effect (i : Instr) (s t : State) : Prop
  | core (hb : busy s.phase = true) (hm : SameMessage s t)
  | quiet (hp : t.phase = s.phase) (hm : SameMessage s t)
  | hostWrite (hb : busy s.phase = false) (hp : t.phase = s.phase) (he : t.errcode = s.errcode)
  | start (hi : i = .start) (hx : execStart s = .next t)
  | reset (hi : i = .reset) (hx : execReset s = .next t)

theorem exec_effect (h : exec i s = .next t) : Effect i s t := by
  cases Kind.of i with
  | returns hi =>
    obtain ⟨v, rfl⟩ := exec_returnsOnly_next hi h
    exact .quiet rfl ⟨rfl, rfl, rfl, rfl⟩
  | operation idx =>
    rw [exec_decodeOpidx] at h
    exact .core (congrArg busy (runOperation_next h).1) (runOperation_coreStep h).same
  | reset => exact .reset rfl h
  | start => exact .start rfl h
  | wrLen v =>
    obtain ⟨hb, rfl⟩ := execWrLen_next h
    exact .hostWrite hb rfl rfl
  | wrMsg p b =>
    obtain ⟨hb, -, rfl⟩ := execWrMsg_next h
    exact .hostWrite hb rfl rfl
  | init =>
    obtain rfl := next_inj h
    exact .quiet rfl ⟨rfl, rfl, rfl, rfl⟩
  | load => exact .core (congrArg busy (execLoad_next h).1) (execLoad_coreStep h).same
  | save => exact .core (congrArg busy (execSave_next_iff.mp h).1) (execSave_coreStep h).same
  | feed => exact .core (congrArg busy (execFeed_next_cases h).1) (execFeed_coreStep h).same
  | fmt => exact .core (congrArg busy (execFmt_next_iff.mp h).1) (execFmt_coreStep h).same

/-! ### Which move is pending -/

/-- R68, R230: the two kinds of code that select RESET. -/
theorem decode_eq_reset {c : Code} (h : decode c = .op .reset) :
    c = .resetInput ∨ ∃ w : Nat, w.testBit 1 = true ∧ c = .access (.write 0 w) := by
  obtain rfl | ⟨-, hc⟩ | ⟨hi, -⟩ | ⟨_, _, -, -, he⟩ := eq_encode_or_freeCode h
  · exact .inr ⟨2, by decide, rfl⟩
  · exact hc
  · cases hi
  · cases he

/-- R68: the codes that select START. -/
theorem decode_eq_start {c : Code} (h : decode c = .op .start) :
    ∃ w : Nat, w.testBit 1 = false ∧ w.testBit 0 = true ∧ c = .access (.write 0 w) := by
  obtain rfl | ⟨hi, -⟩ | ⟨-, hc⟩ | ⟨_, _, -, -, he⟩ := eq_encode_or_freeCode h
  · exact ⟨1, by decide, by decide, rfl⟩
  · cases hi
  · exact hc
  · cases he

theorem issues_of_fetch {a : Access} (hf : fetch s = some (.access a, u)) : ∃ rest, s.issues a rest := by
  obtain ⟨_, -, hc, -⟩ | ⟨_, rest, ha, hc, -⟩ | ⟨_, _, -, -, hc, -⟩ | ⟨-, hc, -⟩ := fetch_cases hf
  · cases hc
  · cases hc
    exact ⟨rest, ha⟩
  · cases hc
  · cases hc

theorem host_of_fetch_resetInput (hf : fetch s = some (.resetInput, u)) : ∃ rest, s.host = .resetInput :: rest := by
  obtain ⟨rest, hh, -, -⟩ | ⟨_, _, -, hc, -⟩ | ⟨_, _, -, -, hc, -⟩ | ⟨-, hc, -⟩ := fetch_cases hf
  · exact ⟨rest, hh⟩
  · cases hc
  · cases hc
  · cases hc

theorem resetPending_of_fetch {c : Code} (hf : fetch s = some (c, u)) (hd : decode c = .op .reset) : resetPending s := by
  obtain rfl | ⟨w, hw, rfl⟩ := decode_eq_reset hd
  · obtain ⟨rest, hh⟩ := host_of_fetch_resetInput hf
    exact ⟨rest, .inl hh⟩
  · obtain ⟨rest, ha⟩ := issues_of_fetch hf
    exact ⟨rest, .inr ⟨w, hw, ha⟩⟩

theorem startPending_of_fetch {c : Code} (hf : fetch s = some (c, u)) (hd : decode c = .op .start) : startPending s := by
  obtain ⟨w, h1, h0, rfl⟩ := decode_eq_start hd
  obtain ⟨rest, ha⟩ := issues_of_fetch hf
  exact ⟨rest, w, h1, h0, ha⟩

end

/-! ### The ways out of ERR -/

section
variable {s t : State}

/-- A step runs an instruction, or it uses up a move and returns a value at most. -/
theorem step_idles_or_runs (h : step s = .next t) :
    (∃ l o, t = { s with host := l, out := o }) ∨
    ∃ c l i, fetch s = some (c, s.setHost l) ∧ decode c = .op i ∧ exec i (s.setHost l) = .next t := by
  obtain ⟨-, rfl⟩ | ⟨c, u, i, hf, hd, hx⟩ | ⟨c, u, hf, -, rfl⟩ | ⟨c, u, hf, -, rfl⟩ := step_cases h
  · exact .inl ⟨s.host.tail, s.out, rfl⟩
  · obtain ⟨l, rfl⟩ := fetch_eq_setHost hf
    exact .inr ⟨c, l, i, hf, hd, hx⟩
  · obtain ⟨l, rfl⟩ := fetch_eq_setHost hf
    exact .inl ⟨l, s.out, rfl⟩
  · obtain ⟨l, rfl⟩ := fetch_eq_setHost hf
    exact .inl ⟨l, _, rfl⟩

end

/-- Settles O58: of the instructions a step can run, START and RESET alone write the phase or ERRCODE outside a run; START accepts or
raises the fault by whether LEN fits. -/
theorem errIsLeftByStartOrReset : Obligations.ErrIsLeftByStartOrReset := by
  intro s t hp h
  obtain ⟨l, o, rfl⟩ | ⟨c, l, i, hf, hd, hx⟩ := step_idles_or_runs h
  · exact .inl ⟨hp, .inl rfl⟩
  · cases exec_effect hx with
    | core hb hm => exact absurd hp (ne_err_of_busy hb)
    | quiet hq hm => exact .inl ⟨hq.trans hp, .inl hm.errcode⟩
    | hostWrite hb hq he => exact .inl ⟨hq.trans hp, .inl he⟩
    | start hi hs =>
      subst hi
      have hpend := startPending_of_fetch hf hd
      obtain ⟨-, ⟨hfit, rfl⟩ | ⟨hfit, rfl⟩⟩ := execStart_next_cases hs
      · exact .inr (.inl ⟨hpend, hfit, rfl, rfl⟩)
      · exact .inl ⟨rfl, .inr ⟨hpend, hfit, rfl⟩⟩
    | reset hi hr =>
      subst hi
      obtain rfl := next_inj hr
      exact .inr (.inr ⟨resetPending_of_fetch hf hd, rfl, rfl⟩)

end Sys2Proof.Machine
end

section
/-! SUPPORT. The statements of 70_reset_and_hazards.md: what RESET does (O38); that LOAD refuses an unwritten message byte (O27) and reads
none at or above LEN (O54); and that MSG and LEN stand still during a run (O57). -/

namespace Sys2Proof.Machine

/-! ### RESET -/

/-- R28: STATUS in IDLE has no bit set. -/
theorem status_idle : status .idle = 0 := by decide

/-- Settles O38: RESET has no guard, and each field it writes is read off. -/
theorem resetEffect : Obligations.ResetEffect :=
  fun _ => ⟨_, rfl, rfl, rfl, rfl, rfl, rfl, rfl, rfl, rfl, rfl, rfl, rfl, status_idle⟩

/-! ### The message during a run -/

/-- Settles O57: the core's operations leave the message, the host's writes and START have no next state while BUSY, and RESET is
run only as the pending move. -/
theorem messageFrozenWhileBusy : Obligations.MessageFrozenWhileBusy := by
  intro s t hb h
  obtain ⟨l, o, rfl⟩ | ⟨c, l, i, hf, hd, hx⟩ := step_idles_or_runs h
  · exact ⟨rfl, .inl rfl⟩
  · cases exec_effect hx with
    | core _ hm | quiet _ hm => exact ⟨hm.msg, .inl hm.len⟩
    | hostWrite hn => cases hb.symm.trans hn
    | start _ hs => cases hb.symm.trans (execStart_next_cases hs).1
    | reset hi hr =>
      subst hi
      obtain rfl := next_inj hr
      exact ⟨rfl, .inr ⟨resetPending_of_fetch hf hd, rfl, rfl⟩⟩

/-! ### What LOAD reads -/

section
variable {mem mem' : Memory} {l n p : Nat}

/-- R84: below LEN the byte function reads the message. -/
theorem pbByte_message (h : p < l) : pbByte mem l p = Memory.read mem p :=
  if_pos h

theorem pbByte_isSome_of_pbWord {w : Word} (h : pbWord mem l p = some w) {j : Nat} (hj : j < 4) :
    (pbByte mem l (p + j)).isSome = true := by
  obtain ⟨b0, b1, b2, b3, h0, h1, h2, h3, -⟩ := pbWord_some h
  interval_cases j
  · rw [Nat.add_zero, h0]; rfl
  · rw [h1]; rfl
  · rw [h2]; rfl
  · rw [h3]; rfl

/-- R102: a block is decoded from all of its 64 bytes. -/
theorem pbByte_isSome_of_blockWords {x : Vector Word 16} (h : blockWords mem l n = some x) (hlo : 64 * n ≤ p)
    (hhi : p < 64 * n + 64) : (pbByte mem l p).isSome = true := by
  obtain ⟨k, j, hj, rfl⟩ : ∃ (k : Fin 16) (j : Nat), j < 4 ∧ p = 64 * n + 4 * k.val + j :=
    ⟨⟨(p - 64 * n) / 4, by omega⟩, (p - 64 * n) % 4, by omega, by dsimp only; omega⟩
  exact pbByte_isSome_of_pbWord (allSome_eq_some.mp h k) hj

/-- R235: a block with a message byte that nothing has written cannot be decoded. -/
theorem blockWords_eq_none (hlo : 64 * n ≤ p) (hhi : p < 64 * n + 64) (hp : p < l) (hr : Memory.read mem p = none) :
    blockWords mem l n = none := by
  cases hx : blockWords mem l n with
  | none => rfl
  | some x =>
    have hb := pbByte_isSome_of_blockWords hx hlo hhi
    rw [pbByte_message hp, hr] at hb
    cases hb

theorem pbByte_congr (h : ∀ p, p < l → Memory.read mem' p = Memory.read mem p) (p : Nat) :
    pbByte mem' l p = pbByte mem l p := by
  by_cases hp : p < l
  · rw [pbByte_message hp, pbByte_message hp, h p hp]
  · rw [pbByte, pbByte, if_neg hp, if_neg hp]

/-- R233: what is decoded depends on the message bytes below LEN alone. -/
theorem blockWords_congr (h : ∀ p, p < l → Memory.read mem' p = Memory.read mem p) (n : Nat) :
    blockWords mem' l n = blockWords mem l n := by
  simp only [blockWords, pbWord, pbByte_congr h]

end

/-- Settles O27: the block cannot be decoded, so LOAD, in its phase and at a block in range, refuses. -/
theorem loadRefusesUnwrittenByte : Obligations.LoadRefusesUnwrittenByte := by
  intro s p hp hn hlo hhi hlt hr
  change execLoad s = _
  rw [execLoad, whenPhase_pos _ hp, if_pos hn, blockWords_eq_none hlo hhi hlt hr]

/-! ### Message bytes at or above LEN -/

section
variable {s t : State} {mem : Memory}

theorem setMsg_afterOperation (s : State) : s.afterOperation.setMsg mem = (s.setMsg mem).afterOperation := by
  unfold State.afterOperation
  exact apply_ite (State.setMsg · mem) ..

theorem setMsg_afterFeed (s : State) : s.afterFeed.setMsg mem = (s.setMsg mem).afterFeed := by
  unfold State.afterFeed
  exact apply_ite (State.setMsg · mem) ..

/-- Only LOAD reads the memory, and it reads the same words from one that agrees below LEN. -/
theorem execLoad_setMsg (hm : ∀ p, p < s.len → Memory.read mem p = Memory.read s.msg p) (h : execLoad s = .next t) :
    execLoad (s.setMsg mem) = .next (t.setMsg mem) := by
  obtain ⟨hp, hn, x, hx, rfl⟩ := execLoad_next h
  exact execLoad_pos (s := s.setMsg mem) hp hn ((blockWords_congr hm s.blk).trans hx)

theorem runOperation_setMsg {d : Descr} (h : runOperation d s = .next t) :
    runOperation d (s.setMsg mem) = .next (t.setMsg mem) := by
  obtain ⟨hp, hi, rfl⟩ := runOperation_next h
  rw [setMsg_afterOperation]
  exact runOperation_pos (s := s.setMsg mem) hp hi

theorem execFeed_setMsg (h : execFeed s = .next t) : execFeed (s.setMsg mem) = .next (t.setMsg mem) := by
  obtain ⟨hp, rfl⟩ := whenPhase_next_iff.mp h
  rw [setMsg_afterFeed]
  exact whenPhase_pos _ hp

theorem step_setMsg (hh : s.host = []) (hm : ∀ p, p < s.len → Memory.read mem p = Memory.read s.msg p)
    (h : step s = .next t) : step (s.setMsg mem) = .next (t.setMsg mem) := by
  cases hp : s.phase with
  | load => exact (step_load (s := s.setMsg mem) hh hp).trans (execLoad_setMsg hm (step_load hh hp ▸ h))
  | save =>
    obtain ⟨-, rfl⟩ := execSave_next_iff.mp (step_save hh hp ▸ h)
    exact (step_save (s := s.setMsg mem) hh hp).trans (execSave_next_iff.mpr ⟨hp, rfl⟩)
  | step =>
    exact (step_operation (s := s.setMsg mem) hh hp).trans (runOperation_setMsg (step_operation hh hp ▸ h))
  | feed => exact (step_feed (s := s.setMsg mem) hh hp).trans (execFeed_setMsg (step_feed hh hp ▸ h))
  | fmt =>
    obtain ⟨-, rfl⟩ := execFmt_next_iff.mp (step_fmt hh hp ▸ h)
    exact (step_fmt (s := s.setMsg mem) hh hp).trans (execFmt_next_iff.mpr ⟨hp, rfl⟩)
  | idle | done | err =>
    have hb : busy s.phase = false := congrArg busy hp
    obtain rfl := next_inj (((waitingChangesNothing s hb).1 hh).symm.trans h)
    exact (waitingChangesNothing (t.setMsg mem) hb).1 hh

end

/-- Settles O54: writing another memory, the same below LEN, commutes with every step of the core. -/
theorem unreadBytesDoNotMatter : Obligations.UnreadBytesDoNotMatter :=
  fun _ _ _ => step_setMsg

end Sys2Proof.Machine
end
